-- ==== Sys2Proof/Word.lean ====
section
/-! DEFINITION. The words of the OSL-16: bytes of the control port, samples of the programme links, and the index types
of the book (00_scope.md, Conventions). -/

namespace Sys2Proof

/-- A byte of the control port (R162). -/
abbrev Byte := BitVec 8

/-- The 32-bit subblock counter and the stamps taken from it (R4, R176). -/
abbrev Word32 := BitVec 32

/-- A sample on a programme link: 24-bit two's complement, full scale 8,388,608 (R5). -/
abbrev Sample := BitVec 24

/-- The 32 slot samples of one link frame, slot 0 first (R5). -/
abbrev Slots := Vector Sample 32

/-- A slot number of a link (2.2). -/
abbrev SlotIndex := Fin 32

/-- A service index (R23). -/
abbrev ServiceIndex := Fin 16

/-- Zero in all 32 slots: an ABSENT read (R13). -/
def Slots.silence : Slots := Vector.replicate 32 0

/-- The service indices in index order, the order of autostart and of map loading (R34, R55). -/
def allServices : List ServiceIndex := [0, 1, 2, 3, 4, 5, 6, 7, 8, 9, 10, 11, 12, 13, 14, 15]

end Sys2Proof
end

