-- ==== Sys2Proof/Syntax.lean ====
section
/-! DEFINITION. The commands of the OSL-16: one constructor of `Instr` for each row of spec/opcode_table.json, in the
table's order, with what the surroundings bring to that step. Served requests bring no operand of their own: the step
takes the oldest frame of the inbox (R167, log 4). Levels of pins and times that a step reads are operands (log 5, log 6). -/

namespace Sys2Proof

/-- The two port receivers (1.4). -/
inductive Port where
  | a
  | b
  deriving DecidableEq, Repr

/-- The level of an input pin, or of a stop bit. -/
inductive PinLevel where
  | low
  | high
  deriving DecidableEq, Repr

/-- A link frame after its sync word: counter, slots 0 to 31, check (1.3). -/
structure LinkBody where
  counter : BitVec 8
  slots : Slots
  check : BitVec 8
  deriving DecidableEq, Repr

/-- The 800 bits of a frame position, by field (1.3, R5). -/
structure LinkFrame where
  sync : BitVec 16
  body : LinkBody
  deriving DecidableEq, Repr

/-- What one subblock end takes in some order: the raise of a port's assessment, or the close of a service (R178). -/
inductive CloseItem where
  | port (p : Port)
  | service (n : ServiceIndex)
  deriving DecidableEq, Repr

/-- The commands, one per row of spec/opcode_table.json. -/
inductive Instr where
  /-- OUTPUT_FRAME (R17): an output frame boundary. -/
  | outputFrame
  /-- MISSING_EDGE (R1): no REFCLK edge came in the window before the oscillator's boundary. -/
  | missingEdge
  /-- CLOCK_TO_INTERNAL (R1): the change of source that a missing-edge count of 3 brings. -/
  | clockToInternal
  /-- REFCLK_EDGE (R1, R2): an edge, `beforeBoundary` frame periods before the boundary the oscillator would supply
  (negative: after it; just after a return to REFERENCE that is the boundary that ends the frame in progress) and `sinceEdge`
  frame periods after the previous edge (`none`: there was none). -/
  | refclkEdge (beforeBoundary : Rat) (sinceEdge : Option Rat)
  /-- CLOCK_TO_REFERENCE (R2): the change of source that a return count of 4800 brings. -/
  | clockToReference
  /-- SEARCH_FRAME_POSITION (R6): in SEARCH, the 16 bits at the position examined (`none`: no decodable signal). -/
  | searchFramePosition (p : Port) (sync : Option (BitVec 16))
  /-- PORT_LOCK (R6): the lock at a qualifying count of 8, with the rest of the eighth qualifying frame. -/
  | portLock (p : Port) (body : LinkBody)
  /-- LINK_FRAME_ARRIVAL (R8): one frame position in LOCKED or UNRELIABLE (`none`: no decodable signal, R7). -/
  | linkFrameArrival (p : Port) (line : Option LinkFrame)
  /-- PORT_LOSS_OF_SYNC (R7): the change to SEARCH that a bad-sync run of 4 brings. -/
  | portLossOfSync (p : Port)
  /-- SUBBLOCK_END (R4): the end of a device subblock; `order` is the order of its closes and port raises (R178, log 7). -/
  | subblockEnd (order : List CloseItem)
  /-- CONTROL_FRAME_COMPLETE (R164): the frame in progress has its second check byte. -/
  | controlFrameComplete
  /-- LENGTH_FAULT (R165): the frame in progress has a LEN above 240. -/
  | lengthFault
  /-- FRAME_TIMEOUT (R165): the inter-byte timer passes 20 ms. -/
  | frameTimeout
  /-- UNKNOWN_KIND (R167): the oldest request names no kind of the catalogue. -/
  | unknownKind
  /-- IDENTIFY (R171). -/
  | identify
  /-- QUERY (R172, R173): `protect` is the PROTECT level when it is served. -/
  | query (protect : PinLevel)
  /-- PEEK (R174). -/
  | peek
  /-- MAP (R24 to R30). -/
  | map
  /-- UNMAP (R31). -/
  | unmap
  /-- PROFILE (R94 to R100): `protect` is the PROTECT level when it is served. -/
  | profile (protect : PinLevel)
  /-- START (R36 to R39). -/
  | start
  /-- HALT (R36, R41). -/
  | halt
  /-- BYPASS (R36, R40). -/
  | bypass
  /-- MARK (R86 to R89). -/
  | mark
  /-- SELECT (R156, R157). -/
  | select
  /-- PORTS (R9). -/
  | ports
  /-- NOTIFY (R182). -/
  | notify
  /-- STORE (R185): `protect` is the PROTECT level when it is served. -/
  | store (protect : PinLevel)
  /-- STORE_COMPLETE (R186): `good` when the read-back matches and its check word is correct. -/
  | storeComplete (good : Bool)
  /-- RESET (R188): the Reset request is served. -/
  | reset
  /-- RESET_REQUEST_ACTS (R188): the reset acts, its reply having been sent. -/
  | resetRequestActs
  /-- TRANSMIT_FRAME_END (R170): the last byte of the frame being sent has gone. -/
  | transmitFrameEnd
  /-- POWER_ON (R187): the supply becomes good; rate pin levels and the age in frame periods of the last REFCLK edge
  at the end of the reset (`none`: no edge arrived) are those read by R162 and R3. -/
  | powerOn (rate1 rate0 : PinLevel) (edgeAge : Option Rat)
  /-- RESET_PIN_ASSERT (R187). -/
  | resetPinAssert
  /-- RESET_PIN_RELEASE (R187): operands as for POWER_ON. -/
  | resetPinRelease (rate1 rate0 : PinLevel) (edgeAge : Option Rat)
  /-- CONTROL_BYTE_RECEIVED (R162, R164): a byte and the level of its stop bit. -/
  | controlByteReceived (value : Byte) (stop : PinLevel)
  /-- LOSS_OF_POWER (R187). -/
  | lossOfPower
  deriving DecidableEq, Repr

end Sys2Proof
end

