-- ==== Sys2Proof/Machine/Exact.lean ====
section
/-! DEFINITION. The book's exact arithmetic (00_scope.md, Rounding): round half to even, and the logarithms and powers of
ten of R68, R79, R103, R123, R134 and R141, decided by whole-number comparisons, so that every result is the exact value
after the rounding the rule states. -/

namespace Sys2Proof.Machine

/-- `num / den` rounded half to even. -/
def rheDiv (num : Int) (den : Nat) : Int :=
  let q := num / den
  let r := num % den
  if 2 * r < den then q
  else if den < 2 * r then q + 1
  else if q % 2 = 0 then q
  else q + 1

/-- Clamping to a range (00_scope.md, Clamping and saturation). -/
def clampTo (lo hi v : Int) : Int :=
  if v < lo then lo else if hi < v then hi else v

/-- A saturating count goes up by one (00_scope.md). -/
def satInc (bound n : Nat) : Nat :=
  min (n + 1) bound

/-- From `v`, the greatest value below `v + 2^bits` at which a downward closed test holds, given that it holds at `v`. -/
@[irreducible] def climb (test : Int → Bool) : Nat → Int → Int
  | 0, v => v
  | bits + 1, v => climb test bits (if test (v + 2 ^ bits) then v + 2 ^ bits else v)

/-- `10^e ≤ x^n` for a rational `x ≥ 0` and a whole `e` of either sign. -/
def tenPowLe (e : Int) (x : Rat) (n : Nat) : Bool :=
  if 0 ≤ e then decide (10 ^ e.toNat * x.den ^ n ≤ x.num.toNat ^ n)
  else decide (x.den ^ n ≤ x.num.toNat ^ n * 10 ^ (-e).toNat)

/-- The greatest `k` from `lo` to `hi` with `10^(a·k + b) ≤ x^n`, and `lo` where there is none. With
`e = a·k + b` the value of `n·log10` of the lower edge of `k`'s rounding interval, this is a rounded logarithm of `x`
clamped to the range. None of the edges used here is reached by a rational, so the half-way case does not occur. -/
def logRound (n : Nat) (a b lo hi : Int) (x : Rat) : Int :=
  climb (fun k => decide (k ≤ hi) && tenPowLe (a * k + b) x n) 14 lo

/-- conv of R68: `1000·log10 p − 69.1` rounded and clamped to −12000 to +1000; the edge of `k` is `k − 1/2`, which
`p` reaches when `p^5000 ≥ 10^(5k + 343)`. -/
def conv (p : Rat) : Int :=
  logRound 5000 5 343 (-12000) 1000 p

/-- The feed level of R141: `1000·log10 m` rounded and clamped to −12000 to 0. -/
def feedLevel (meanSquare : Rat) : Int :=
  logRound 2000 2 (-1) (-12000) 0 meanSquare

/-- The reduction of R134 for a least gain `h` of 1 to 2^20: `−2000·log10(h / 2^20)` rounded; at most 12,041. -/
def reductionOf (h : Int) : Int :=
  logRound 4000 2 (-1) 0 12041 (1048576 / h)

/-- `10^(g / 2000) × 2^s` rounded, for a result below 2^24: the greatest `n` with `n − 1/2` at most the exact value. -/
def scaledPower (s : Nat) (g : Int) : Int :=
  climb (fun n =>
    if 0 ≤ g then decide ((2 * n - 1) ^ 2000 ≤ 10 ^ g.toNat * (2 : Int) ^ (2000 * (s + 1)))
    else decide ((2 * n - 1) ^ 2000 * 10 ^ (-g).toNat ≤ (2 : Int) ^ (2000 * (s + 1)))) 24 0

/-- lin of R103: cdB to gain units. -/
def lin (g : Int) : Int :=
  scaledPower 20 g

/-- The ceiling amplitude of R123: cdB to sample units. -/
def ceilingAmplitude (cp : Int) : Int :=
  scaledPower 23 cp

/-! ### Means of centre powers (R78, R79)

Relative to bin 0 the centre power of bin `b` is `10^(b/100)`, since R78's formula gives neighbouring bins the ratio
`10^0.01` (log 10). Its lower bound at a precision of `prec` bits is `binRoot prec b / 2^prec`, its upper bound one unit more. -/

/-- The whole part of `10^(b/100) × 2^prec`, for `b < 800`. -/
def binRoot (prec b : Nat) : Nat :=
  (climb (fun n => decide (n.toNat ^ 100 ≤ 10 ^ b * 2 ^ (100 * prec))) (prec + 27) 0).toNat

/-- The occupied bins of a list of counts, with their counts, from bin `b` on. -/
def occupied : Nat → List Nat → List (Nat × Nat)
  | _, [] => []
  | b, n :: ns => if n = 0 then occupied (b + 1) ns else (b, n) :: occupied (b + 1) ns

/-- Sum of the counts of some bins. -/
def countSum (occ : List (Nat × Nat)) : Nat :=
  (occ.map (·.2)).sum

/-- A bound below (`up = 0`) or above (`up = 1`) for the mean centre power of some bins relative to bin 0. -/
def meanBound (up prec : Nat) (occ : List (Nat × Nat)) : Rat :=
  ((occ.map fun (b, n) => n * (binRoot prec b + up)).sum : Nat) / ((countSum occ * 2 ^ prec : Nat) : Rat)

/-- conv of R68 of a power given relative to bin 0, whose centre is −6995 cL: `−6995 + 1000·log10 x` rounded. -/
def convRelative (x : Rat) : Int :=
  logRound 2000 2 13989 (-12000) 1000 x

/-- conv of the mean centre power of some bins: at the first precision of the list at which the conversions of both
bounds agree (log 11). -/
def convMean (occ : List (Nat × Nat)) : List Nat → Int
  | [] => convRelative (meanBound 0 0 occ)
  | [prec] => convRelative (meanBound 0 prec occ)
  | prec :: rest =>
    if convRelative (meanBound 0 prec occ) = convRelative (meanBound 1 prec occ) then
      convRelative (meanBound 0 prec occ)
    else convMean occ rest

/-- The precisions tried, in bits; the last decides every mean that 800 counts of 32 bits can form (log 11). -/
def precisions : List Nat :=
  [64, 256, 1024, 16384, 262144]

/-- The centre of a bin in cL (R76). -/
def binCentre (b : Nat) : Int :=
  -6995 + 10 * b

/-- Integrated loudness of bin counts that are not all zero (R79): the relative gate is conv of the ungated mean less
1000, and the result is conv of the mean over the bins whose centre is at the gate or higher. -/
def integratedLoudness (counts : List Nat) : Int :=
  let occ := occupied 0 counts
  let gate := convMean occ precisions - 1000
  convMean (occ.filter fun (b, _) => decide (gate ≤ binCentre b)) precisions

end Sys2Proof.Machine
end

