-- ==== Sys2Proof/Config.lean ====
section
/-! DEFINITION. What the part fixes: sizes, capacities and identity codes that the book states as constants.
The book leaves no value open that an instruction would produce, so there is no free value here (INVENTORY.md). -/

namespace Sys2Proof.Config

/-- Frames of one subblock (00_scope.md, Timebase; R4). -/
abbrev framesPerSubblock : Nat := 4800

/-- Frames of one segment (7.1). -/
abbrev framesPerSegment : Nat := 16

/-- Entries of an elastic store (1.5). -/
abbrev storeDepth : Nat := 64

/-- The fill at which a store is centred (R13). -/
abbrev centreFill : Nat := 32

/-- Entries of a full history ring (R65). -/
abbrev ringSize : Nat := 30

/-- Entries of a full look-ahead queue (R118). -/
abbrev queueSize : Nat := 8

/-- Engine capacity in units (R53). -/
abbrev capacity : Nat := 96

/-- Unity on the linear gain scale, 2^20 gain units. -/
abbrev unity : Nat := 1048576

/-- Frames of a fade and of a crossfade (R131, R152). -/
abbrev fadeFrames : Nat := 480

/-- The total at which integration is ready (R81). -/
abbrev readyTotal : Nat := 300

/-- Error limit of a port when the store gives none (R9). -/
abbrev defaultErrorLimit : Nat := 48

/-- Requests the inbox holds (R166). -/
abbrev inboxSize : Nat := 4

/-- Bound of a 16-bit saturating count. -/
abbrev max16 : Nat := 65535

/-- Bound of a 32-bit saturating count (R77). -/
abbrev max32 : Nat := 4294967295

end Sys2Proof.Config
end

