-- ==== Sys2Proof/Machine/State.lean ====
section
/-! DEFINITION. Every piece of state the book gives the OSL-16, as plain data, and the state right after reset.
Each field names the rule that owns it; INVENTORY.md lists them all with their reset values. -/

namespace Sys2Proof.Machine

/-- No command stops the part: the book describes every fault as an effect on state (a status, a count, a reply), so there
is no reason to stop and this type has no constructor. Safe: a step that cannot fault hides nothing (log 23). -/
inductive Fault where
  deriving DecidableEq, Repr

/-- Reasons to refuse a command. -/
inductive Refusal where
  /-- Raised by `exec` for a row that has no meaning yet. Safe: the run stops. No arm of this model raises it. -/
  | notModelled (mnemonic : String)
  deriving DecidableEq, Repr

/-! ### Reference clock, port receivers and slot tables (chapters 1 and 2) -/

/-- The clock source (R1). -/
inductive ClockSource where
  | reference
  | internal
  deriving DecidableEq, Repr

/-- What the next output frame waits for (R1, R2). -/
inductive FrameStart where
  /-- A REFCLK edge in the window before the oscillator's boundary, or that boundary when the edge is missing (R1). -/
  | window
  /-- The first REFCLK edge after the boundary that ends the frame in progress, after a return to REFERENCE (R2). -/
  | firstEdge
  /-- Nothing: its boundary has come, or comes from the oscillator of itself under INTERNAL (R1). -/
  | given
  deriving DecidableEq, Repr

/-- The reference clock unit (1.1): source, missing-edge count 0 to 3, return count 0 to 4800, and what the next output frame
waits for. -/
structure Clock where
  source : ClockSource
  missing : Nat
  returns : Nat
  start : FrameStart
  deriving DecidableEq, Repr

/-- A port's sync state (1.4). -/
inductive SyncState where
  | search
  | locked
  | unreliable
  deriving DecidableEq, Repr

/-- The mark of a stored frame (R8). -/
inductive FrameMark where
  | valid
  | held
  deriving DecidableEq, Repr

/-- An elastic store entry (1.5): samples, mark, error flag. -/
structure StoreFrame where
  slots : Slots
  mark : FrameMark
  error : Bool
  deriving DecidableEq, Repr

/-- The mark of a frame read from a store (R13, R14, R21). -/
inductive ReadMark where
  | valid
  | held
  | absent
  deriving DecidableEq, Repr

/-- A frame read from a store at an output frame: its samples, and the mark that applies to every slot of it (R21). -/
structure ReadFrame where
  slots : Slots
  mark : ReadMark
  deriving DecidableEq, Repr

/-- A port receiver (1.4), with the frame that the last output frame read from its store. The fill is the length of `store` (1.5). -/
structure Receiver where
  sync : SyncState
  expected : Option (BitVec 8)
  badRun : Nat
  qualifying : Nat
  errorsNow : Nat
  errorsLast : Nat
  erroredRun : Nat
  cleanRun : Nat
  errorLimit : Nat
  slips : Nat
  store : List StoreFrame
  centred : Bool
  lastEntered : Option Slots
  lastRead : Option Slots
  frameRead : Option ReadFrame
  deriving DecidableEq, Repr

/-- The owner of a slot (2.2): a service index and a channel index of that service. -/
structure Owner where
  service : ServiceIndex
  channel : Fin 6
  deriving DecidableEq, Repr

/-- A slot table (2.2): `none` is FREE. -/
abbrev SlotTable := Vector (Option Owner) 32

/-! ### The service record (R23) -/

/-- Layouts (R19). -/
inductive Layout where
  | mono
  | stereo
  | surround
  deriving DecidableEq, Repr

/-- Lifecycle states (3.1). -/
inductive Lifecycle where
  | vacant
  | idle
  | priming
  | active
  | bypass
  | dropped
  | halting
  deriving DecidableEq, Repr

/-- Resume states of a DROPPED service (R35). -/
inductive Resume where
  | priming
  | active
  | bypass
  deriving DecidableEq, Repr

/-- The halt phase of the close phase (R35). -/
inductive HaltPhase where
  | halt
  | fadeOut
  deriving DecidableEq, Repr

/-- The slots of one channel (R23): main, reserve or NONE, output. -/
structure ChannelMap where
  main : SlotIndex
  reserve : Option SlotIndex
  output : SlotIndex
  deriving DecidableEq, Repr

/-- A control profile (R93), fields in index order 1 to 17. -/
structure Profile where
  target : Int
  agility : Int
  riseStep : Int
  fallStep : Int
  freezeDepth : Int
  gainFloor : Int
  gainCeiling : Int
  initialGain : Int
  peakCeiling : Int
  release : Int
  silenceThreshold : Int
  silenceTime : Int
  returnHold : Int
  autoReturn : Bool
  tolerance : Int
  heavyLimit : Int
  autostart : Bool
  deriving DecidableEq, Repr

/-- The default column of the profile table (R93): the factory profile. -/
def Profile.factory : Profile where
  target := -2300
  agility := 50
  riseStep := 10
  fallStep := 50
  freezeDepth := 1500
  gainFloor := -1200
  gainCeiling := 900
  initialGain := 0
  peakCeiling := -100
  release := 64
  silenceThreshold := -6000
  silenceTime := 100
  returnHold := 300
  autoReturn := true
  tolerance := 200
  heavyLimit := 600
  autostart := false

/-- One second-order section's memory (R60): its two previous inputs and two previous outputs. -/
structure Section where
  in1 : Rat
  in2 : Rat
  out1 : Rat
  out2 : Rat
  deriving DecidableEq, Repr

/-- The weighting filter state of one channel (R60). -/
structure Filter where
  stage1 : Section
  stage2 : Section
  deriving DecidableEq, Repr

/-- The measurement unit (chapter 4). -/
structure Measurement where
  filters : List Filter
  accums : List Rat
  ring : List Rat
  lastAppend : Option Word32
  momentary : Option Int
  shortTerm : Option Int
  deriving DecidableEq, Repr

/-- The integration unit (chapter 5). -/
structure Integration where
  bins : Vector Nat 800
  total : Nat
  integrated : Option Int
  deviation : Bool
  sinceMark : Nat
  deriving DecidableEq, Repr

/-- The gain computer (6.5). -/
structure GainComputer where
  g : Int
  rampStart : Int
  rampEnd : Int
  regain : Bool
  deriving DecidableEq, Repr

/-- What an entry of the look-ahead queue holds in OUTPUT beside its peak and required gain (R118): ramp start and
limiter gain. -/
structure SegmentOutput where
  rampStart : Int
  gain : Int
  deriving DecidableEq, Repr

/-- An entry of the look-ahead queue (R118): one lane of gained samples per channel, and what its stage has formed. -/
structure Segment where
  lanes : List (List Int)
  peak : Option Nat
  required : Option Int
  output : Option SegmentOutput
  deriving DecidableEq, Repr

/-- The fade state with the position of a fade in progress (R131). -/
inductive FadeState where
  | none
  | fadeIn (position : Nat)
  | fadeOut (position : Nat)
  | silent
  deriving DecidableEq, Repr

/-- A pending fade (R129). -/
inductive PendingFade where
  | fadeIn
  | fadeOut
  deriving DecidableEq, Repr

/-- The peak limiter and output stage (chapter 7). -/
structure Limiter where
  queue : List Segment
  lastGain : Int
  subMin : Int
  lastSubMin : Int
  clips : Nat
  lastClips : Nat
  totalClips : Nat
  fade : FadeState
  pendingFade : Option PendingFade
  deriving DecidableEq, Repr

/-- The two feeds (chapter 8). -/
inductive Feed where
  | main
  | reserve
  deriving DecidableEq, Repr

/-- Selection modes (R147). -/
inductive SelectionMode where
  | auto
  | forceMain
  | forceReserve
  deriving DecidableEq, Repr

/-- A feed monitor (R140 to R142): level of the last subblock, silent run, level accumulator. -/
structure Monitor where
  level : Int
  silentRun : Nat
  accum : Rat
  deriving DecidableEq, Repr

/-- The MAIN monitor adds the main-good run (R143). -/
structure MainMonitor where
  monitor : Monitor
  goodRun : Nat
  deriving DecidableEq, Repr

/-- A crossfade in progress (R151, R152). -/
structure Crossfade where
  old : Feed
  position : Nat
  deriving DecidableEq, Repr

/-- The feed units (chapter 8). -/
structure Feeds where
  mainMonitor : Option MainMonitor
  reserveMonitor : Option Monitor
  mode : SelectionMode
  inUse : Feed
  crossfade : Option Crossfade
  deriving DecidableEq, Repr

/-- A service record (R23). -/
structure Service where
  lifecycle : Lifecycle
  resume : Option Resume
  entryMarker : Bool
  haltPhase : Option HaltPhase
  layout : Option Layout
  map : List ChannelMap
  reserveMapped : Bool
  profile : Profile
  pendingProfile : Option Profile
  cost : Nat
  meas : Measurement
  integ : Integration
  gain : GainComputer
  lim : Limiter
  feeds : Feeds
  deriving DecidableEq, Repr

/-! ### Control port (chapter 9) -/

/-- A control frame without start byte, LEN and check (9.2). -/
structure ControlFrame where
  kind : Byte
  tag : Byte
  unit : Byte
  payload : List Byte
  deriving DecidableEq, Repr

/-- The framing state of the receiver (R164), with the bytes received after the start byte. -/
inductive ByteReceiver where
  | hunt
  | inFrame (bytes : List Byte)
  deriving DecidableEq, Repr

/-- Whose reply a frame of the reply queue is (R169, R188). -/
inductive ReplyMark where
  | ordinary
  | store
  | reset
  deriving DecidableEq, Repr

/-- A frame of the reply queue (R169). -/
structure Reply where
  frame : ControlFrame
  mark : ReplyMark
  deriving DecidableEq, Repr

/-- What the transmitter is sending (R170). -/
inductive Sending where
  | idle
  | reply (frame : ControlFrame)
  | notice (frame : ControlFrame)
  deriving DecidableEq, Repr

/-- One service's part of the image (R184), each item in the form of the request that writes it (log 9): the Map payload or
a mark that there is none, and the Profile payload. -/
structure StoredService where
  map : Option (List Byte)
  profile : List Byte
  deriving DecidableEq, Repr

/-- The items of the configuration image (R184). -/
structure Image where
  limitA : Nat
  limitB : Nat
  mask : Byte
  services : Vector StoredService 16
  deriving DecidableEq, Repr

/-- What the flash holds (R184): never written since manufacture, or an image with its check word. -/
inductive Flash where
  | blank
  | written (items : Image) (check : BitVec 16)
  deriving DecidableEq, Repr

/-- The store status (R184). -/
inductive StoreStatus where
  | valid
  | invalid
  | blank
  deriving DecidableEq, Repr

/-- A Store in flight (R185): the snapshot, and the TAG and UNIT its reply will carry. -/
structure StoreJob where
  image : Image
  tag : Byte
  unit : Byte
  deriving DecidableEq, Repr

/-- The option of a Reset request (R188). -/
inductive ResetOption where
  | keep
  | reload
  deriving DecidableEq, Repr

/-- An accepted Reset request (R188): none, its reply still to be sent, or its reply sent and the reset due. -/
inductive ResetPhase where
  | none
  | waiting (option : ResetOption)
  | due (option : ResetOption)
  deriving DecidableEq, Repr

/-- The control port (chapter 9). -/
structure ControlPort where
  receiver : ByteReceiver
  inbox : List ControlFrame
  replies : List Reply
  sending : Sending
  storeJob : Option StoreJob
  resetPhase : ResetPhase
  deriving DecidableEq, Repr

/-! ### Notices (chapter 10) -/

/-- Causes of a reset (R189). -/
inductive ResetCause where
  | power
  | pin
  | request
  deriving DecidableEq, Repr

/-- Causes of a STATE notice (R47). -/
inductive StateCause where
  | primed
  | noFeed
  | resumed
  | halted
  | autostart
  | capacity
  deriving DecidableEq, Repr

/-- Causes of a FEED notice (R155). -/
inductive FeedCause where
  | rank
  | autoReturn
  | forced
  deriving DecidableEq, Repr

/-- Origins of notices (R176). -/
inductive Origin where
  | device
  | port (p : Port)
  | service (n : ServiceIndex)
  deriving DecidableEq, Repr

/-- Kinds of notices (R176). -/
inductive NoticeKind where
  | ready
  | clock
  | port
  | state
  | feed
  | deviation
  | limit
  | clip
  deriving DecidableEq, Repr

/-- The detail of a raise, by kind (R179). -/
inductive Detail where
  | ready (cause : ResetCause) (status : StoreStatus)
  | clock (source : ClockSource)
  | port (sync : SyncState) (centred : Bool)
  | state (lifecycle : Lifecycle) (resume : Option Resume) (cause : StateCause) (cost free : Nat)
  | feed (inUse : Feed) (cause : FeedCause)
  | deviation (i t : Int)
  | limit (reduction : Int)
  | clip (last total : Nat)
  deriving DecidableEq, Repr

/-- What an entry holds while its frame is being sent (R176): its raises during the frame, and the subblock of the first. -/
structure FrameRaises where
  raises : Nat
  first : Option Word32
  deriving DecidableEq, Repr

/-- A pending entry of the notice set (R176). Its kind is that of its detail. -/
structure NoticeEntry where
  origin : Origin
  detail : Detail
  firstRaised : Word32
  count : Nat
  inFrame : Option FrameRaises
  deriving DecidableEq, Repr

/-- The notice set with its mask (R176). -/
structure Notices where
  entries : List NoticeEntry
  mask : Byte
  deriving DecidableEq, Repr

/-! ### The part -/

/-- The pins and the supply (R162, R187, 11.2): levels as last sampled, RESET and the supply as they stand. -/
structure Pins where
  supplyGood : Bool
  resetAsserted : Bool
  protect : PinLevel
  rate1 : PinLevel
  rate0 : PinLevel
  deriving DecidableEq, Repr

/-- The control port rate in bit/s (R162). -/
inductive Rate where
  | bps57600
  | bps115200
  | bps230400
  | bps460800
  deriving DecidableEq, Repr

/-- The output line (R17, R18): steady, or the last frame sent (log 19). -/
inductive OutputLine where
  | steady
  | carrying (frame : LinkFrame)
  deriving DecidableEq, Repr

/-- The output transmitter (1.7): the counter of the next frame, and its line. -/
structure OutputTx where
  counter : BitVec 8
  line : OutputLine
  deriving DecidableEq, Repr

/-- The whole part, with the queue of waiting commands. -/
structure State where
  pending : List Instr
  pins : Pins
  rate : Rate
  resetCause : ResetCause
  clock : Clock
  frame : Nat
  subblock : Word32
  portA : Receiver
  portB : Receiver
  tableA : SlotTable
  tableB : SlotTable
  tableOut : SlotTable
  services : Vector Service 16
  committed : Nat
  output : OutputTx
  control : ControlPort
  notices : Notices
  flash : Flash
  storeStatus : StoreStatus
  deriving DecidableEq, Repr

/-! ### The state after reset -/

/-- A receiver after a reset (R16) with an error limit. -/
def Receiver.afterReset (limit : Nat) : Receiver where
  sync := .search
  expected := none
  badRun := 0
  qualifying := 0
  errorsNow := 0
  errorsLast := 0
  erroredRun := 0
  cleanRun := 0
  errorLimit := limit
  slips := 0
  store := []
  centred := false
  lastEntered := none
  lastRead := none
  frameRead := none

/-- A VACANT service with the factory profile (R34, R74, R92, R105, R139, R161). -/
def Service.factory : Service where
  lifecycle := .vacant
  resume := none
  entryMarker := false
  haltPhase := none
  layout := none
  map := []
  reserveMapped := false
  profile := Profile.factory
  pendingProfile := none
  cost := 0
  meas :=
    { filters := [], accums := [], ring := [], lastAppend := none, momentary := none, shortTerm := none }
  integ :=
    { bins := Vector.replicate 800 0, total := 0, integrated := none, deviation := false, sinceMark := 0 }
  gain := { g := 0, rampStart := 1048576, rampEnd := 1048576, regain := false }
  lim :=
    { queue := [], lastGain := 1048576, subMin := 1048576, lastSubMin := 1048576, clips := 0, lastClips := 0,
      totalClips := 0, fade := .silent, pendingFade := none }
  feeds :=
    { mainMonitor := none, reserveMonitor := none, mode := .auto, inUse := .main, crossfade := none }

/-- The READY notice frame of the first power-on (R179, R189): kind 0, subblock 0, count 1, POWER, BLANK. -/
def readyFrame : ControlFrame where
  kind := 0x40
  tag := 0
  unit := 0xFF
  payload := [0, 0, 0, 0, 0, 1, 0, 2]

/-- The part right after a power-on with a flash never written, REFCLK present, and the rate pins and PROTECT low
(R187; log 8). READY is the one notice raised (R189), and the idle transmitter has begun its frame (R170). -/
def State.reset : State where
  pending := []
  pins := { supplyGood := true, resetAsserted := false, protect := .low, rate1 := .low, rate0 := .low }
  rate := .bps57600
  resetCause := .power
  clock := { source := .reference, missing := 0, returns := 0, start := .window }
  frame := 0
  subblock := 0
  portA := Receiver.afterReset 48
  portB := Receiver.afterReset 48
  tableA := Vector.replicate 32 none
  tableB := Vector.replicate 32 none
  tableOut := Vector.replicate 32 none
  services := Vector.replicate 16 Service.factory
  committed := 0
  output := { counter := 0, line := .steady }
  control :=
    { receiver := .hunt, inbox := [], replies := [], sending := .notice readyFrame, storeJob := none,
      resetPhase := .none }
  notices :=
    { entries :=
        [{ origin := .device, detail := .ready .power .blank, firstRaised := 0, count := 1,
           inFrame := some { raises := 0, first := none } }],
      mask := 0xFF }
  flash := .blank
  storeStatus := .blank

end Sys2Proof.Machine
end

