-- ==== Sys2Proof/Machine/Wire.lean ====
section
/-! DEFINITION. The two wire formats (1.3, 9.2), their check words, the byte order of message fields, and the codes of
9.7 and chapter 10. -/

namespace Sys2Proof.Machine

/-! ### Bits, bytes and check words -/

/-- The bits of a field, most significant first (R5, R163). -/
def bitsMsb {w : Nat} (v : BitVec w) : List Bool :=
  (List.range w).map v.getMsbD

/-- One bit into a CRC register, no reflection (R5, R163). -/
def crcStep {w : Nat} (generator reg : BitVec w) (bit : Bool) : BitVec w :=
  if (reg.msb ^^ bit) then (reg <<< 1) ^^^ generator else reg <<< 1

/-- A CRC over bits, no final inversion. -/
def crcBits {w : Nat} (generator init : BitVec w) (bits : List Bool) : BitVec w :=
  bits.foldl (crcStep generator) init

/-- CRC-8 of a link frame (R5): generator x^8+x^2+x+1, initial value 0. -/
def crc8 (bits : List Bool) : BitVec 8 :=
  crcBits 0x07#8 0#8 bits

/-- CRC-16 of a control frame (R163): generator x^16+x^12+x^5+1, initial value 0xFFFF, bytes most significant bit first. -/
def crc16 (bytes : List Byte) : BitVec 16 :=
  crcBits 0x1021#16 0xFFFF#16 (bytes.flatMap bitsMsb)

/-- The low `n` bytes of a number, most significant byte first, two's complement when negative (9.2). -/
def beBytes (n : Nat) (v : Int) : List Byte :=
  (List.range n).map fun i => BitVec.ofInt 8 (v / 256 ^ (n - 1 - i))

/-- An unsigned field, most significant byte first (9.2). -/
def beNat (bytes : List Byte) : Nat :=
  bytes.foldl (fun acc b => acc * 256 + b.toNat) 0

/-- A two's complement field, most significant byte first (9.2). -/
def beInt (bytes : List Byte) : Int :=
  if 2 * beNat bytes < 256 ^ bytes.length then beNat bytes else (beNat bytes : Int) - 256 ^ bytes.length

/-- A count or code as one byte. -/
def byteOf (n : Nat) : Byte :=
  BitVec.ofNat 8 n

/-! ### Link frames (R5) -/

/-- The sync word of a link frame (1.3). -/
def syncWord : BitVec 16 :=
  0xB62E

/-- The 776 bits of counter and slots in transmission order (R5). -/
def LinkBody.covered (b : LinkBody) : List Bool :=
  bitsMsb b.counter ++ b.slots.toList.flatMap bitsMsb

/-- The receiver's test: the CRC over counter, slots and received check is 0 (R5). -/
def LinkBody.intact (b : LinkBody) : Bool :=
  crc8 (LinkBody.covered b ++ bitsMsb b.check) == 0#8

/-- The frame the output transmitter sends for a counter and 32 slots (R17). -/
def buildLinkFrame (counter : BitVec 8) (slots : Slots) : LinkFrame :=
  { sync := syncWord
    body := { counter, slots, check := crc8 (LinkBody.covered { counter, slots, check := 0 }) } }

/-- The 800 bits of a link frame in the order they are sent (R5). -/
def LinkFrame.bits (f : LinkFrame) : List Bool :=
  bitsMsb f.sync ++ LinkBody.covered f.body ++ bitsMsb f.body.check

/-! ### Control frames (R163) -/

/-- LEN through payload: the bytes the check covers (R163). -/
def ControlFrame.covered (f : ControlFrame) : List Byte :=
  byteOf f.payload.length :: f.kind :: f.tag :: f.unit :: f.payload

/-- The frame on the wire: start byte, covered bytes, check most significant byte first (9.2). -/
def ControlFrame.bytes (f : ControlFrame) : List Byte :=
  let check := crc16 (ControlFrame.covered f)
  0xA5 :: (ControlFrame.covered f ++ [check.extractLsb' 8 8, check.extractLsb' 0 8])

/-- The LEN of the frame in progress, once its byte has come (R164). -/
def lenOf (bytes : List Byte) : Option Nat :=
  bytes.head?.map BitVec.toNat

/-- LEN above 240 (R165). -/
def lengthFaulty (bytes : List Byte) : Bool :=
  match lenOf bytes with
  | some len => decide (240 < len)
  | none => false

/-- All `6 + LEN` bytes after the start byte have come (R164). -/
def frameComplete (bytes : List Byte) : Bool :=
  match lenOf bytes with
  | some len => decide (len ≤ 240) && decide (6 + len ≤ bytes.length)
  | none => false

/-- The check of a complete frame: the CRC over LEN through the two check bytes is 0 (R163). -/
def frameIntact (bytes : List Byte) : Bool :=
  crc16 bytes == 0#16

/-- The request in a complete frame's bytes after the start byte (9.2). -/
def frameOf (bytes : List Byte) : ControlFrame :=
  { kind := bytes.getD 1 0
    tag := bytes.getD 2 0
    unit := bytes.getD 3 0
    payload := (bytes.drop 4).take ((lenOf bytes).getD 0) }

/-! ### Codes (9.7, R168, R176, R179) -/

/-- Status codes of replies (R168). -/
inductive Status where
  | ok
  | unknown
  | length
  | unit
  | state
  | range
  | conflict
  | capacity
  | protectedField
  | busy
  | full
  | fault
  deriving DecidableEq, Repr

def Status.code : Status → Byte
  | .ok => 0x00
  | .unknown => 0x01
  | .length => 0x02
  | .unit => 0x03
  | .state => 0x04
  | .range => 0x05
  | .conflict => 0x06
  | .capacity => 0x07
  | .protectedField => 0x08
  | .busy => 0x09
  | .full => 0x0A
  | .fault => 0x0B

def Lifecycle.code : Lifecycle → Byte
  | .vacant => 0
  | .idle => 1
  | .priming => 2
  | .active => 3
  | .bypass => 4
  | .dropped => 5
  | .halting => 6

/-- The lifecycle state a resume state names (R35). -/
def Resume.lifecycle : Resume → Lifecycle
  | .priming => .priming
  | .active => .active
  | .bypass => .bypass

/-- The code of a resume state, 0xFF when absent (9.7). -/
def resumeCode : Option Resume → Byte
  | some r => Lifecycle.code (Resume.lifecycle r)
  | none => 0xFF

def Layout.code : Layout → Byte
  | .mono => 1
  | .stereo => 2
  | .surround => 6

def SelectionMode.code : SelectionMode → Byte
  | .auto => 0
  | .forceMain => 1
  | .forceReserve => 2

def Feed.code : Feed → Byte
  | .main => 0
  | .reserve => 1

def SyncState.code : SyncState → Byte
  | .search => 0
  | .locked => 1
  | .unreliable => 2

def ClockSource.code : ClockSource → Byte
  | .reference => 0
  | .internal => 1

def StoreStatus.code : StoreStatus → Byte
  | .valid => 0
  | .invalid => 1
  | .blank => 2

def ResetCause.code : ResetCause → Byte
  | .power => 0
  | .pin => 1
  | .request => 2

def StateCause.code : StateCause → Byte
  | .primed => 0
  | .noFeed => 1
  | .resumed => 2
  | .halted => 3
  | .autostart => 4
  | .capacity => 5

def FeedCause.code : FeedCause → Byte
  | .rank => 0
  | .autoReturn => 1
  | .forced => 2

def flagCode (b : Bool) : Byte :=
  if b then 1 else 0

def PinLevel.code : PinLevel → Byte
  | .low => 0
  | .high => 1

/-- The code of a notice kind, which is also its bit in the mask (R176, R182). -/
def NoticeKind.code : NoticeKind → Nat
  | .ready => 0
  | .clock => 1
  | .port => 2
  | .state => 3
  | .feed => 4
  | .deviation => 5
  | .limit => 6
  | .clip => 7

/-- The kind a detail is laid out for (R179). -/
def Detail.kind : Detail → NoticeKind
  | .ready _ _ => .ready
  | .clock _ => .clock
  | .port _ _ => .port
  | .state _ _ _ _ _ => .state
  | .feed _ _ => .feed
  | .deviation _ _ => .deviation
  | .limit _ => .limit
  | .clip _ _ => .clip

/-- The detail bytes of a notice (R179). -/
def Detail.bytes : Detail → List Byte
  | .ready cause status => [ResetCause.code cause, StoreStatus.code status]
  | .clock source => [ClockSource.code source]
  | .port sync centred => [SyncState.code sync, flagCode centred]
  | .state lc resume cause cost free =>
    [Lifecycle.code lc, resumeCode resume, StateCause.code cause, byteOf cost, byteOf free]
  | .feed inUse cause => [Feed.code inUse, FeedCause.code cause]
  | .deviation i t => beBytes 2 i ++ beBytes 2 t
  | .limit reduction => beBytes 2 reduction
  | .clip last total => beBytes 2 last ++ beBytes 2 total

/-- The UNIT of a notice frame (R170, R179). -/
def Origin.unit : Origin → Byte
  | .service n => byteOf n.val
  | .port .a => 0xF0
  | .port .b => 0xF1
  | .device => 0xFF

/-- The frame of a notice entry as it stands (R179). -/
def NoticeEntry.frame (e : NoticeEntry) : ControlFrame :=
  { kind := 0x40
    tag := 0
    unit := Origin.unit e.origin
    payload := byteOf (NoticeKind.code (Detail.kind e.detail)) :: beBytes 4 e.firstRaised.toNat
      ++ byteOf e.count :: Detail.bytes e.detail }

end Sys2Proof.Machine
end

