-- ==== Sys2Proof/Machine/Operands.lean ====
section
/-! DEFINITION. What the requests carry: the addressed unit (9.2), the Profile payload (R93, R94, R96) and the Map payload
with its checks (R24 to R27). The stored image holds maps and profiles in the same forms (log 9). -/

namespace Sys2Proof.Machine

/-! ### Units -/

/-- UNIT 0 to 15 names a service (9.2). -/
def serviceOf (unit : Byte) : Option ServiceIndex :=
  if h : unit.toNat < 16 then some ⟨unit.toNat, h⟩ else none

/-- UNIT 0xF0 and 0xF1 name the port receivers (9.2). -/
def portOf (unit : Byte) : Option Port :=
  if unit = 0xF0 then some .a else if unit = 0xF1 then some .b else none

/-- UNIT 0xFF is the device (9.2). -/
def deviceUnit : Byte :=
  0xFF

/-- The three slot tables (2.2). -/
inductive TableId where
  | portA
  | portB
  | output
  deriving DecidableEq, Repr

/-- Slot table codes (9.7). -/
def TableId.code : TableId → Byte
  | .portA => 0
  | .portB => 1
  | .output => 2

/-- UNIT 0xF0, 0xF1 and 0xF2 name the slot tables for Peek (R22). -/
def tableOf (unit : Byte) : Option TableId :=
  if unit = 0xF0 then some .portA else if unit = 0xF1 then some .portB
  else if unit = 0xF2 then some .output else none

/-! ### Layouts and cost -/

/-- Channel counts (R19). -/
def Layout.channels : Layout → Nat
  | .mono => 1
  | .stereo => 2
  | .surround => 6

/-- Loudness weights in index order (R19). -/
def Layout.weights : Layout → List Rat
  | .mono => [1]
  | .stereo => [1, 1]
  | .surround => [1, 1, 1, 0, 141 / 100, 141 / 100]

/-- The layout of a code (R24). -/
def layoutOfCode (code : Byte) : Option Layout :=
  if code = 1 then some .mono else if code = 2 then some .stereo
  else if code = 6 then some .surround else none

/-- The cost of a mapped service (R32). -/
def costOf (layout : Layout) (reserve : Bool) : Nat :=
  if reserve then 4 * Layout.channels layout else 3 * Layout.channels layout

/-! ### The control profile -/

/-- A row of the profile table (R93). -/
structure FieldSpec where
  bytes : Nat
  signed : Bool
  lo : Int
  hi : Int
  deriving DecidableEq, Repr

/-- The profile table (R93), fields 1 to 17. Field 8, the initial gain, is not examined (R94, check 3): its range is that of
a signed 16-bit value. -/
def profileTable : List FieldSpec :=
  [ ⟨2, true, -3100, -1000⟩, ⟨1, false, 0, 100⟩, ⟨2, false, 1, 200⟩, ⟨2, false, 1, 600⟩, ⟨2, false, 500, 4000⟩,
    ⟨2, true, -2400, 0⟩, ⟨2, true, 0, 1800⟩, ⟨2, true, -32768, 32767⟩, ⟨2, true, -1200, 0⟩, ⟨3, false, 1, 65536⟩,
    ⟨2, true, -9000, -3000⟩, ⟨2, false, 10, 600⟩, ⟨2, false, 10, 3000⟩, ⟨1, false, 0, 1⟩, ⟨2, false, 50, 1000⟩,
    ⟨2, false, 100, 1200⟩, ⟨1, false, 0, 1⟩ ]

/-- The field values of a Profile payload (R93). -/
def parseFields : List FieldSpec → List Byte → List Int
  | [], _ => []
  | f :: fs, bytes =>
    (if f.signed then beInt (bytes.take f.bytes) else beNat (bytes.take f.bytes)) :: parseFields fs (bytes.drop f.bytes)

/-- The index of the first field outside its range, counting from `index` (R94, check 3). -/
def firstOutOfRange : Nat → List FieldSpec → List Int → Option Nat
  | index, f :: fs, v :: vs =>
    if f.lo ≤ v ∧ v ≤ f.hi then firstOutOfRange (index + 1) fs vs else some index
  | _, _, _ => none

/-- The profile of 17 field values in index order (R93). -/
def profileOfFields (v : List Int) : Profile where
  target := v.getD 0 0
  agility := v.getD 1 0
  riseStep := v.getD 2 0
  fallStep := v.getD 3 0
  freezeDepth := v.getD 4 0
  gainFloor := v.getD 5 0
  gainCeiling := v.getD 6 0
  initialGain := v.getD 7 0
  peakCeiling := v.getD 8 0
  release := v.getD 9 0
  silenceThreshold := v.getD 10 0
  silenceTime := v.getD 11 0
  returnHold := v.getD 12 0
  autoReturn := v.getD 13 0 != 0
  tolerance := v.getD 14 0
  heavyLimit := v.getD 15 0
  autostart := v.getD 16 0 != 0

/-- The 17 field values of a profile in index order (R93). -/
def Profile.fields (p : Profile) : List Int :=
  [ p.target, p.agility, p.riseStep, p.fallStep, p.freezeDepth, p.gainFloor, p.gainCeiling, p.initialGain, p.peakCeiling,
    p.release, p.silenceThreshold, p.silenceTime, p.returnHold, (if p.autoReturn then 1 else 0), p.tolerance,
    p.heavyLimit, (if p.autostart then 1 else 0) ]

/-- The initial gain is clamped into the profile's own gain floor and ceiling on acceptance (R96). -/
def Profile.accepted (p : Profile) : Profile :=
  { p with initialGain := clampTo p.gainFloor p.gainCeiling p.initialGain }

/-- A profile from its payload, clamped by R96, or the index of its first field out of range (R94, check 3). -/
def profileOfPayload (payload : List Byte) : Except Nat Profile :=
  let values := parseFields profileTable payload
  match firstOutOfRange 1 profileTable values with
  | some index => .error index
  | none => .ok (Profile.accepted (profileOfFields values))

/-- The payload that carries a profile (R93). -/
def Profile.payload (p : Profile) : List Byte :=
  (List.zipWith (fun f v => beBytes f.bytes v) profileTable (Profile.fields p)).flatten

/-! ### The map -/

/-- Why a Map fails a check, with its detail (R25 to R27, R30). -/
inductive MapRefusal where
  | length
  | range (channel field : Byte)
  | conflict (table : TableId) (slot : SlotIndex) (owner : Owner)
  deriving DecidableEq, Repr

/-- A slot number of a payload (R24). -/
def slotOf (b : Byte) : Option SlotIndex :=
  if h : b.toNat < 32 then some ⟨b.toNat, h⟩ else none

/-- The three slot bytes of each channel (R24). -/
def rawChannels : List Byte → List (Byte × Byte × Byte)
  | m :: r :: o :: rest => (m, r, o) :: rawChannels rest
  | _ => []

/-- Check 3, one channel: the first of main, reserve, output outside its range (R25). -/
def rangeRefusal (channel : Nat) : Byte × Byte × Byte → Option MapRefusal
  | (m, r, o) =>
    if slotOf m = none then some (.range (byteOf channel) 1)
    else if r ≠ 0xFF ∧ slotOf r = none then some (.range (byteOf channel) 2)
    else if slotOf o = none then some (.range (byteOf channel) 3)
    else none

/-- A channel map whose bytes are in range. -/
def channelOf : Byte × Byte × Byte → Option ChannelMap
  | (m, r, o) =>
    match slotOf m, slotOf o with
    | some main, some output => some { main, reserve := if r = 0xFF then none else slotOf r, output }
    | _, _ => none

/-- Check 3, all or none: the first channel whose reserve does not go with channel 0's (R25). -/
def reserveRefusal (channels : List ChannelMap) : Option MapRefusal :=
  match channels.head? with
  | none => none
  | some first =>
    channels.zipIdx.findSome? fun (ch, c) =>
      if ch.reserve.isSome = first.reserve.isSome then none else some (.range (byteOf c) 2)

/-- Checks 2 and 3 of a Map payload (R25). -/
def parseMap (payload : List Byte) : Except MapRefusal (Layout × List ChannelMap) :=
  match payload with
  | [] => .error .length
  | code :: slots =>
    match layoutOfCode code with
    | none => .error (.range 0xFF 0)
    | some layout =>
      if slots.length ≠ 3 * Layout.channels layout then .error .length
      else
        match (rawChannels slots).zipIdx.findSome? fun (raw, c) => rangeRefusal c raw with
        | some refusal => .error refusal
        | none =>
          let channels := (rawChannels slots).filterMap channelOf
          match reserveRefusal channels with
          | some refusal => .error refusal
          | none => .ok (layout, channels)

/-- A slot that a map names: its channel, table and slot number. -/
structure MapField where
  channel : Nat
  table : TableId
  slot : SlotIndex
  deriving DecidableEq, Repr

/-- The slots of one channel in table order, leaving out a reserve of NONE (R26, R27). -/
def channelFields : ChannelMap × Nat → List MapField
  | (ch, c) =>
    [{ channel := c, table := .portA, slot := ch.main }]
      ++ (match ch.reserve with
          | some r => [{ channel := c, table := .portB, slot := r }]
          | none => [])
      ++ [{ channel := c, table := .output, slot := ch.output }]

/-- All slots of a map, channel by channel and in table order within a channel (R26, R27). -/
def mapFields (channels : List ChannelMap) : List MapField :=
  channels.zipIdx.flatMap channelFields

/-- Check 4: the first slot that an earlier channel names in the same table; the owner named is service `n` with the
earliest such channel (R26). -/
def repeatRefusal (n : ServiceIndex) (channels : List ChannelMap) : Option MapRefusal :=
  (mapFields channels).findSome? fun f =>
    ((mapFields channels).find? fun e => e.channel < f.channel && e.table == f.table && e.slot == f.slot).map
      fun e => .conflict f.table f.slot { service := n, channel := Fin.ofNat 6 e.channel }

/-- Check 5: the first slot that another service owns (R27). -/
def ownerRefusal (owner : TableId → SlotIndex → Option Owner) (n : ServiceIndex) (channels : List ChannelMap) :
    Option MapRefusal :=
  (mapFields channels).findSome? fun f =>
    match owner f.table f.slot with
    | some o => if o.service = n then none else some (.conflict f.table f.slot o)
    | none => none

/-- Checks 2 to 5 of a map for service `n` against the slot tables (R25 to R27), in order. -/
def checkMap (owner : TableId → SlotIndex → Option Owner) (n : ServiceIndex) (payload : List Byte) :
    Except MapRefusal (Layout × List ChannelMap) :=
  match parseMap payload with
  | .error refusal => .error refusal
  | .ok (layout, channels) =>
    match repeatRefusal n channels with
    | some refusal => .error refusal
    | none =>
      match ownerRefusal owner n channels with
      | some refusal => .error refusal
      | none => .ok (layout, channels)

/-- The slot bytes of a channel (R24). -/
def ChannelMap.bytes (ch : ChannelMap) : List Byte :=
  [byteOf ch.main.val, (match ch.reserve with | some r => byteOf r.val | none => 0xFF), byteOf ch.output.val]

/-- The payload that carries a map (R24). -/
def mapPayload (layout : Layout) (channels : List ChannelMap) : List Byte :=
  Layout.code layout :: channels.flatMap ChannelMap.bytes

end Sys2Proof.Machine
end

