-- ==== Sys2Proof/Machine/Flags.lean ====
section
/-! DEFINITION. Conditions that several rules read: running states, usability of a port (R11), feed ranks (R145),
readiness of integration (R81), the deviation test (R83), ATTN (R181), and what a request's kind is (R168). -/

namespace Sys2Proof.Machine

/-- The running states (3.1). -/
def Lifecycle.running : Lifecycle → Bool
  | .vacant | .idle => false
  | .priming | .active | .bypass | .dropped | .halting => true

/-- The states whose closes measure, count and decide (R64, R75, R144). -/
def Lifecycle.measuring : Lifecycle → Bool
  | .priming | .active | .bypass => true
  | .vacant | .idle | .dropped | .halting => false

/-- The fast path runs in the running states, but not in an entry subblock (R35, R38). -/
def Service.runsFastPath (sv : Service) : Bool :=
  Lifecycle.running sv.lifecycle && !sv.entryMarker

/-- The part is neither without supply nor held in reset (R187). -/
def State.operating (s : State) : Bool :=
  s.pins.supplyGood && !s.pins.resetAsserted

/-- A port is usable when LOCKED and centred (R11). -/
def Receiver.usable (r : Receiver) : Bool :=
  r.sync == .locked && r.centred

/-- Feed ranks, lowest first (R145). -/
inductive Rank where
  | absent
  | unusable
  | quiet
  | good
  deriving DecidableEq, Repr

/-- Rank codes and their order (R145, 9.7). -/
def Rank.code : Rank → Nat
  | .absent => 0
  | .unusable => 1
  | .quiet => 2
  | .good => 3

/-- A feed is usable when GOOD or QUIET (R145). -/
def Rank.usable (r : Rank) : Bool :=
  r == .good || r == .quiet

/-- The rank of a feed from its port's usability and its monitor's silent run; a feed without monitor is ABSENT (R145,
R159). -/
def rankOf (portUsable : Bool) (silenceTime : Int) : Option Monitor → Rank
  | none => .absent
  | some m =>
    if !portUsable then .unusable
    else if silenceTime ≤ m.silentRun then .quiet
    else .good

/-- The rank of MAIN (R145). -/
def Service.mainRank (sv : Service) (usableA : Bool) : Rank :=
  rankOf usableA sv.profile.silenceTime (sv.feeds.mainMonitor.map (·.monitor))

/-- The rank of RESERVE (R145). -/
def Service.reserveRank (sv : Service) (usableB : Bool) : Rank :=
  rankOf usableB sv.profile.silenceTime sv.feeds.reserveMonitor

/-- Integration is ready while the total is 300 or more (R81). -/
def Integration.ready (i : Integration) : Bool :=
  decide (Config.readyTotal ≤ i.total)

/-- The deviation flag after a test with d = |I − T| (R83). -/
def deviationAfter (flag : Bool) (i t tolerance : Int) : Bool :=
  let d := |i - t|
  if flag then decide (tolerance - 50 < d) else decide (tolerance < d)

/-- The reserve is mapped when every channel has a reserve slot (R23, R28). -/
def reserveOf (channels : List ChannelMap) : Bool :=
  channels.all fun ch => ch.reserve.isSome

/-- ATTN is low while notices wait, and high while the part is held in reset or without supply (R181, R187). -/
def State.attn (s : State) : PinLevel :=
  if s.operating && !s.notices.entries.isEmpty then .low else .high

/-- The kinds of the request catalogue (R168). -/
def catalogue : List Byte :=
  [0x01, 0x02, 0x03, 0x10, 0x11, 0x12, 0x13, 0x14, 0x15, 0x16, 0x17, 0x20, 0x21, 0x30, 0x31]

end Sys2Proof.Machine
end

