-- ==== Sys2Proof/Machine/Ops.lean ====
section
/-! DEFINITION. The named operations over state that the commands share: what a frame waits for (R1), reading and writing
receivers and services, raising a notice (R177), the transmitter's choice (R170), queueing a reply (R169), and serving the
oldest request (R167). -/

namespace Sys2Proof.Machine

/-! ### Frame boundaries (R1) -/

/-- What a frame waits for under a source, the first frame after a return to REFERENCE apart (R1): an edge, or the
oscillator's own boundary, which is the command OUTPUT_FRAME itself (log 27). -/
def ClockSource.frameStart : ClockSource → FrameStart
  | .reference => .window
  | .internal => .given

/-! ### Receivers, services and slot tables -/

def State.receiver (s : State) : Port → Receiver
  | .a => s.portA
  | .b => s.portB

def State.setReceiver (s : State) (p : Port) (r : Receiver) : State :=
  match p with
  | .a => { s with portA := r }
  | .b => { s with portB := r }

def State.service (s : State) (n : ServiceIndex) : Service :=
  s.services.get n

def State.setService (s : State) (n : ServiceIndex) (sv : Service) : State :=
  { s with services := s.services.set n sv }

def State.table (s : State) : TableId → SlotTable
  | .portA => s.tableA
  | .portB => s.tableB
  | .output => s.tableOut

/-- The owner of a slot (2.2). -/
def State.owner (s : State) (t : TableId) (slot : SlotIndex) : Option Owner :=
  (s.table t).get slot

/-- Every entry of a table owned by service `n` becomes FREE (R28, R31). -/
def SlotTable.freed (t : SlotTable) (n : ServiceIndex) : SlotTable :=
  Vector.ofFn fun i =>
    match t.get i with
    | some o => if o.service = n then none else some o
    | none => none

/-- The slots that some channels of service `n` name in one table become theirs (R28). -/
def SlotTable.assigned (t : SlotTable) (n : ServiceIndex) (fields : List MapField) : SlotTable :=
  fields.foldl (fun acc f => acc.set f.slot (some { service := n, channel := Fin.ofNat 6 f.channel })) t

/-- A table from the old map of service `n` to its new one, in one step (R28). -/
def SlotTable.remapped (t : SlotTable) (id : TableId) (n : ServiceIndex) (channels : List ChannelMap) : SlotTable :=
  SlotTable.assigned (SlotTable.freed t n) n ((mapFields channels).filter fun f => f.table == id)

/-- All three tables take a new map of service `n` (R28); an empty map frees its slots (R31). -/
def State.remapped (s : State) (n : ServiceIndex) (channels : List ChannelMap) : State :=
  { s with
    tableA := SlotTable.remapped s.tableA .portA n channels
    tableB := SlotTable.remapped s.tableB .portB n channels
    tableOut := SlotTable.remapped s.tableOut .output n channels }

/-- Units of the engine budget left (R53). -/
def State.unitsFree (s : State) : Nat :=
  Config.capacity - s.committed

/-! ### Notices (R177, R180, R182) -/

/-- The mask bit of a kind (R182). -/
def Notices.enabled (ns : Notices) (k : NoticeKind) : Bool :=
  ns.mask.getLsbD (NoticeKind.code k)

/-- Whether an entry is the one for a pair of origin and kind (R177). -/
def NoticeEntry.isFor (o : Origin) (k : NoticeKind) (e : NoticeEntry) : Bool :=
  e.origin == o && Detail.kind e.detail == k

/-- A waiting entry takes a further raise (R176, R177). -/
def NoticeEntry.raisedAgain (d : Detail) (stamp : Word32) (e : NoticeEntry) : NoticeEntry :=
  { e with
    detail := d
    count := satInc 255 e.count
    inFrame := e.inFrame.map fun f =>
      { raises := satInc 255 f.raises
        first := match f.first with | some w => some w | none => some stamp } }

/-- A raise acts on the notice set (R177). -/
def Notices.raise (ns : Notices) (o : Origin) (d : Detail) (stamp : Word32) : Notices :=
  if !Notices.enabled ns (Detail.kind d) then ns
  else if ns.entries.any (NoticeEntry.isFor o (Detail.kind d)) then
    { ns with
      entries := ns.entries.map fun e =>
        if NoticeEntry.isFor o (Detail.kind d) e then NoticeEntry.raisedAgain d stamp e else e }
  else
    { ns with
      entries := ns.entries ++ [{ origin := o, detail := d, firstRaised := stamp, count := 1, inFrame := none }] }

/-- A raise in the subblock in progress; at a subblock end this is the one that has just closed, since the counter
increases after the closes (R176). -/
def State.raise (s : State) (o : Origin) (d : Detail) : State :=
  { s with notices := Notices.raise s.notices o d s.subblock }

/-- Raises from one origin, in order. -/
def State.raiseAll (s : State) (o : Origin) (ds : List Detail) : State :=
  ds.foldl (fun acc d => State.raise acc o d) s

/-- The end of a notice frame: an entry that took no raise meanwhile goes, another moves to the end with its raises during
the frame (R180). -/
def Notices.frameDone (ns : Notices) : Notices :=
  let others := ns.entries.filter fun e => e.inFrame.isNone
  let kept := ns.entries.filterMap fun e =>
    match e.inFrame with
    | some f =>
      if f.raises = 0 then none
      else some { e with count := f.raises, firstRaised := f.first.getD e.firstRaised, inFrame := none }
    | none => none
  { ns with entries := others ++ kept }

/-- A new mask, and the removal of the entries whose kinds it disables (R182). -/
def Notices.masked (ns : Notices) (mask : Byte) : Notices :=
  { entries := ns.entries.filter fun e => mask.getLsbD (NoticeKind.code (Detail.kind e.detail)), mask }

/-! ### The transmitter and the reply queue (R169, R170) -/

/-- An idle transmitter chooses the next frame: the oldest reply, else the oldest notice (R170). Nothing is begun while a
reset is due or the part is not operating (log 17). -/
def State.kick (s : State) : State :=
  if !s.operating then s
  else
    match s.control.sending, s.control.resetPhase with
    | .idle, .none | .idle, .waiting _ =>
      match s.control.replies, s.notices.entries with
      | r :: _, _ => { s with control := { s.control with sending := .reply r.frame } }
      | [], e :: rest =>
        { s with
          control := { s.control with sending := .notice (NoticeEntry.frame e) }
          notices := { s.notices with entries := { e with inFrame := some { raises := 0, first := none } } :: rest } }
      | [], [] => s
    | _, _ => s

/-- The replies that R164 and R167 count: all but a Store's (R169). -/
def replyCount (replies : List Reply) : Nat :=
  (replies.filter fun r => r.mark != .store).length

/-- A frame goes to the end of the reply queue (R169). -/
def State.appendReply (s : State) (frame : ControlFrame) (mark : ReplyMark) : State :=
  { s with control := { s.control with replies := s.control.replies ++ [{ frame, mark }] } }

/-- The reply to a request: its KIND with the most significant bit set, its TAG and UNIT, a status byte and a detail
(R168). -/
def replyTo (request : ControlFrame) (status : Status) (detail : List Byte) : ControlFrame :=
  { kind := request.kind ||| 0x80
    tag := request.tag
    unit := request.unit
    payload := Status.code status :: detail }

/-- A Frame fault reply (R165). -/
def frameFault (reason : Byte) : ControlFrame :=
  { kind := 0x7F, tag := 0, unit := 0xFF, payload := [reason] }

/-! ### Serving (R167) -/

/-- What serving answers: a status and its detail. -/
structure Answer where
  status : Status
  detail : List Byte
  deriving DecidableEq, Repr

def Answer.ok (detail : List Byte) : Answer :=
  { status := .ok, detail }

/-- The refusal with LENGTH whose detail is the payload length received. -/
def Answer.length (f : ControlFrame) : Answer :=
  { status := .length, detail := [byteOf f.payload.length] }

/-- A refusal without detail. -/
def Answer.plain (status : Status) : Answer :=
  { status, detail := [] }

/-- The request that can be served now: the oldest of the inbox, while the reply queue holds 6 or fewer, no Reset has been
served and the part is operating (R167), when its KIND is the one asked for. -/
def State.servable (s : State) (kinds : Byte → Bool) : Option ControlFrame :=
  if s.operating && s.control.resetPhase == .none && decide (replyCount s.control.replies ≤ 6) then
    match s.control.inbox with
    | f :: _ => if kinds f.kind then some f else none
    | [] => none
  else none

/-- The oldest request leaves the inbox (R167). -/
def State.dequeued (s : State) : State :=
  { s with control := { s.control with inbox := s.control.inbox.tail } }

/-- Serving one kind of request: it leaves the inbox, its rule acts, and its reply is appended (R167). A command for which
no such request waits does nothing (log 1). -/
def serve (kind : Byte) (act : ControlFrame → State → State × Answer) (s : State) : State :=
  match s.servable (· == kind) with
  | none => s
  | some f =>
    let (done, answer) := act f s.dequeued
    (done.appendReply (replyTo f answer.status answer.detail) .ordinary).kick

/-- The level of PROTECT that a step has read (11.2, log 5). -/
def State.sampleProtect (s : State) (level : PinLevel) : State :=
  { s with pins := { s.pins with protect := level } }

/-- A request whose UNIT must name a service (R24, R31, R36, R86, R94, R156): any other unit is refused with UNIT. -/
def onService (act : ServiceIndex → ControlFrame → State → State × Answer) (f : ControlFrame) (s : State) :
    State × Answer :=
  match serviceOf f.unit with
  | some n => act n f s
  | none => (s, Answer.plain .unit)

/-- The STATE refusal of Start, Halt, Bypass, Mark and Select: lifecycle state and resume state (R36, R86, R156). -/
def stateRefusal (sv : Service) : Answer :=
  { status := .state, detail := [Lifecycle.code sv.lifecycle, resumeCode sv.resume] }

/-- The OK of Start, Halt, Bypass and Mark: lifecycle state and resume state after the request (R36, R86). -/
def stateOk (sv : Service) : Answer :=
  Answer.ok [Lifecycle.code sv.lifecycle, resumeCode sv.resume]

end Sys2Proof.Machine
end

