-- ==== Sys2Proof/Machine/Units.lean ====
section
/-! DEFINITION. The units of a service at the points that clear them: every reset (R74, R92, R105, R139, R161), Start from
IDLE and autostart (R37), an accepted Map (R28, R29) and Unmap (R31), the resume from DROPPED (R45). -/

namespace Sys2Proof.Machine

/-- Cleared section memory (R60). -/
def Section.cleared : Section :=
  { in1 := 0, in2 := 0, out1 := 0, out2 := 0 }

/-- Cleared filter state (R60). -/
def Filter.cleared : Filter :=
  { stage1 := Section.cleared, stage2 := Section.cleared }

/-- Filter state and accumulators cleared, sized to a channel count (R29, R60). -/
def Measurement.sized (m : Measurement) (channels : Nat) : Measurement :=
  { m with filters := List.replicate channels Filter.cleared, accums := List.replicate channels 0 }

/-- The history ring cleared, with the last-append subblock, M and S (R66). -/
def Measurement.ringCleared (m : Measurement) : Measurement :=
  { m with ring := [], lastAppend := none, momentary := none, shortTerm := none }

/-- A cleared measurement unit (R37, R74). -/
def Measurement.cleared (channels : Nat) : Measurement where
  filters := List.replicate channels Filter.cleared
  accums := List.replicate channels 0
  ring := []
  lastAppend := none
  momentary := none
  shortTerm := none

/-- A cleared integration unit (R92). -/
def Integration.cleared : Integration where
  bins := Vector.replicate 800 0
  total := 0
  integrated := none
  deviation := false
  sinceMark := 0

/-- The gain computer at an initial gain (R37, R105). -/
def GainComputer.initial (g : Int) : GainComputer where
  g := g
  rampStart := lin g
  rampEnd := lin g
  regain := false

/-- The limiter and output stage after a reset (R139). -/
def Limiter.afterReset : Limiter where
  queue := []
  lastGain := Config.unity
  subMin := Config.unity
  lastSubMin := Config.unity
  clips := 0
  lastClips := 0
  totalClips := 0
  fade := .silent
  pendingFade := none

/-- The limiter and output stage at Start from IDLE or autostart: as after a reset but for the total clip count, with a
pending IN (R129, R139). -/
def Limiter.atStart (l : Limiter) : Limiter :=
  { Limiter.afterReset with totalClips := l.totalClips, pendingFade := some .fadeIn }

/-- The look-ahead queue cleared (R120). -/
def Limiter.queueCleared (l : Limiter) : Limiter :=
  { l with queue := [], lastGain := Config.unity }

/-- A cleared feed monitor (R161). -/
def Monitor.cleared : Monitor where
  level := -12000
  silentRun := 0
  accum := 0

/-- Feed units of a mapped service after a reset, a Start or an autostart (R140, R161). -/
def Feeds.cleared (reserve : Bool) : Feeds where
  mainMonitor := some { monitor := Monitor.cleared, goodRun := 0 }
  reserveMonitor := if reserve then some Monitor.cleared else none
  mode := .auto
  inUse := .main
  crossfade := none

/-- Feed units of a VACANT service (R31, R140, R161). -/
def Feeds.vacant : Feeds where
  mainMonitor := none
  reserveMonitor := none
  mode := .auto
  inUse := .main
  crossfade := none

/-- The channel count of a service's layout, 0 without layout (R19, R23). -/
def Service.channels (sv : Service) : Nat :=
  (sv.layout.map Layout.channels).getD 0

/-- Start from IDLE and autostart set the units (R37); the entry marker tells the two apart (R35, R55). -/
def Service.started (sv : Service) (entry : Bool) : Service :=
  { sv with
    lifecycle := .priming
    resume := none
    entryMarker := entry
    haltPhase := none
    meas := Measurement.cleared sv.channels
    integ := Integration.cleared
    gain := GainComputer.initial sv.profile.initialGain
    lim := Limiter.atStart sv.lim
    feeds := Feeds.cleared sv.reserveMapped }

/-- A service after a reset that keeps its map and profile (R34, R35, R105, R188). -/
def Service.afterReset (sv : Service) : Service :=
  { sv with
    lifecycle := if sv.lifecycle = .vacant then .vacant else .idle
    resume := none
    entryMarker := false
    haltPhase := none
    pendingProfile := none
    meas := Measurement.cleared sv.channels
    integ := Integration.cleared
    gain := GainComputer.initial sv.profile.initialGain
    lim := Limiter.afterReset
    feeds := if sv.lifecycle = .vacant then Feeds.vacant else Feeds.cleared sv.reserveMapped }

/-- A VACANT service after a load, with its loaded profile (R34, R105). -/
def Service.loaded (profile : Profile) : Service where
  lifecycle := .vacant
  resume := none
  entryMarker := false
  haltPhase := none
  layout := none
  map := []
  reserveMapped := false
  profile := profile
  pendingProfile := none
  cost := 0
  meas := Measurement.cleared 0
  integ := Integration.cleared
  gain := GainComputer.initial profile.initialGain
  lim := Limiter.afterReset
  feeds := Feeds.vacant

/-- An accepted map in the record (R28) and the units prepared for it (R29, R120, R161). -/
def Service.mapped (sv : Service) (layout : Layout) (channels : List ChannelMap) : Service :=
  let reserve := reserveOf channels
  { sv with
    lifecycle := .idle
    layout := some layout
    map := channels
    reserveMapped := reserve
    cost := costOf layout reserve
    meas := Measurement.cleared (Layout.channels layout)
    integ := Integration.cleared
    lim := Limiter.queueCleared sv.lim
    feeds :=
      { Feeds.cleared reserve with
        mode := if sv.feeds.mode = .forceReserve ∧ reserve = false then .auto else sv.feeds.mode } }

/-- An accepted Unmap in the record (R31, R60, R67, R92, R120, R161). The readings, the gain, the fade and the clip counts
stay (log 25). -/
def Service.unmapped (sv : Service) : Service :=
  { sv with
    lifecycle := .vacant
    layout := none
    map := []
    reserveMapped := false
    cost := 0
    meas := Measurement.sized sv.meas 0
    lim := { sv.lim with queue := [] }
    feeds := Feeds.vacant }

end Sys2Proof.Machine
end

