-- ==== Sys2Proof/Machine/Lifecycle.lean ====
section
/-! DEFINITION. The requests that move or mark a running service: START, HALT, BYPASS (3.2), MARK (5.5), SELECT (8.9). -/

namespace Sys2Proof.Machine

/-! ### Start (R36 to R39) -/

/-- The state that a Start leaving BYPASS gives: ACTIVE when the ring is full, else PRIMING (R39). -/
def afterBypass (sv : Service) : Resume :=
  if sv.meas.ring.length = Config.ringSize then .active else .priming

/-- Start for service `n`: the checks of R36 in order, then R37 or R39. -/
def startAct (n : ServiceIndex) (f : ControlFrame) (s : State) : State × Answer :=
  let sv := s.service n
  match sv.lifecycle, sv.resume with
  | .idle, _ =>
    if f.payload ≠ [] then (s, Answer.length f)
    else if Config.capacity < s.committed + sv.cost then
      (s, { status := .capacity, detail := [byteOf sv.cost, byteOf s.unitsFree] })
    else
      let started := sv.started true
      ({ s.setService n started with committed := s.committed + sv.cost }, stateOk started)
  | .bypass, _ =>
    if f.payload ≠ [] then (s, Answer.length f)
    else
      let left := { sv with lifecycle := Resume.lifecycle (afterBypass sv) }
      (s.setService n left, stateOk left)
  | .dropped, some .bypass =>
    if f.payload ≠ [] then (s, Answer.length f)
    else
      let left := { sv with resume := some (afterBypass sv) }
      (s.setService n left, stateOk left)
  | _, _ => (s, stateRefusal sv)

/-! ### Halt and Bypass (R36, R40, R41) -/

/-- Halt for service `n` (R41). -/
def haltAct (n : ServiceIndex) (f : ControlFrame) (s : State) : State × Answer :=
  let sv := s.service n
  if sv.lifecycle = .vacant then (s, stateRefusal sv)
  else if f.payload ≠ [] then (s, Answer.length f)
  else if sv.lifecycle = .idle ∨ sv.lifecycle = .halting then (s, stateOk sv)
  else
    let halted := { sv with lifecycle := .halting, resume := none, haltPhase := some .halt }
    (s.setService n halted, stateOk halted)

/-- Bypass for service `n` (R40). -/
def bypassAct (n : ServiceIndex) (f : ControlFrame) (s : State) : State × Answer :=
  let sv := s.service n
  match sv.lifecycle with
  | .vacant | .idle | .halting => (s, stateRefusal sv)
  | .bypass => if f.payload ≠ [] then (s, Answer.length f) else (s, stateOk sv)
  | .priming | .active =>
    if f.payload ≠ [] then (s, Answer.length f)
    else
      let bypassed := { sv with lifecycle := .bypass }
      (s.setService n bypassed, stateOk bypassed)
  | .dropped =>
    if f.payload ≠ [] then (s, Answer.length f)
    else
      let waiting := { sv with resume := some .bypass }
      (s.setService n waiting, stateOk waiting)

/-! ### Mark (R86 to R89) -/

/-- The histogram, I, the deviation flag and the subblocks since mark cleared, and the REGAIN flag set with its option (R87,
R88). -/
def Service.marked (sv : Service) (regain : Bool) : Service :=
  { sv with
    integ := Integration.cleared
    gain := { sv.gain with regain := sv.gain.regain || regain } }

/-- RESTART: the ring cleared, and an ACTIVE state or resume state back to PRIMING (R89). -/
def Service.restarted (sv : Service) : Service :=
  { sv with
    meas := sv.meas.ringCleared
    lifecycle := if sv.lifecycle = .active then .priming else sv.lifecycle
    resume := if sv.resume = some .active then some .priming else sv.resume }

/-- Mark for service `n` (R86). -/
def markAct (n : ServiceIndex) (f : ControlFrame) (s : State) : State × Answer :=
  let sv := s.service n
  match sv.lifecycle with
  | .vacant | .idle | .halting => (s, stateRefusal sv)
  | .priming | .active | .bypass | .dropped =>
    match f.payload with
    | [option] =>
      if 3 < option.toNat then (s, { status := .range, detail := [option] })
      else
        let marked := sv.marked (option.getLsbD 0)
        let done := if option.getLsbD 1 then marked.restarted else marked
        (s.setService n done, stateOk done)
    | _ => (s, Answer.length f)

/-! ### Select (R156, R157) -/

/-- The mode of a mode byte, for a service with or without reserve (R156). -/
def modeOf (reserve : Bool) (b : Byte) : Option SelectionMode :=
  if b = 0 then some .auto
  else if b = 1 then some .forceMain
  else if b = 2 ∧ reserve then some .forceReserve
  else none

/-- Select for service `n` (R156, R157). -/
def selectAct (n : ServiceIndex) (f : ControlFrame) (s : State) : State × Answer :=
  let sv := s.service n
  if sv.lifecycle = .vacant ∨ sv.lifecycle = .halting then (s, stateRefusal sv)
  else
    match f.payload with
    | [b] =>
      match modeOf sv.reserveMapped b with
      | some mode =>
        (s.setService n { sv with feeds := { sv.feeds with mode := mode } },
          Answer.ok [SelectionMode.code mode, Feed.code sv.feeds.inUse])
      | none => (s, { status := .range, detail := [b] })
    | _ => (s, Answer.length f)

/-- START (R36). -/
def startRequest (s : State) : State :=
  serve 0x13 (onService startAct) s

/-- HALT (R41). -/
def haltRequest (s : State) : State :=
  serve 0x14 (onService haltAct) s

/-- BYPASS (R40). -/
def bypassRequest (s : State) : State :=
  serve 0x15 (onService bypassAct) s

/-- MARK (R86). -/
def markRequest (s : State) : State :=
  serve 0x16 (onService markAct) s

/-- SELECT (R156). -/
def selectRequest (s : State) : State :=
  serve 0x17 (onService selectAct) s

def execStart (s : State) : Host.Outcome State Fault Refusal :=
  .next (startRequest s)

def execHalt (s : State) : Host.Outcome State Fault Refusal :=
  .next (haltRequest s)

def execBypass (s : State) : Host.Outcome State Fault Refusal :=
  .next (bypassRequest s)

def execMark (s : State) : Host.Outcome State Fault Refusal :=
  .next (markRequest s)

def execSelect (s : State) : Host.Outcome State Fault Refusal :=
  .next (selectRequest s)

end Sys2Proof.Machine
end

