-- ==== Sys2Proof/Machine/FastPath.lean ====
section
/-! DEFINITION. The fast path of one service at one frame, within OUTPUT_FRAME: feed samples and crossfade (R21, R152), gain
ramp (R115, R116), measurement tap and weighting filter (R57 to R62), look-ahead queue and limiter (R118 to R128), fades,
saturation and clips (R129 to R133), and the feed monitors' tap (R140). -/

namespace Sys2Proof.Machine

/-! ### Feed samples and crossfade -/

/-- The raw samples of a feed, one per channel in index order (R21). -/
def Service.rawFeed (sv : Service) (slotsA slotsB : Slots) : Feed → List Int
  | .main => sv.map.map fun ch => (slotsA.get ch.main).toInt
  | .reserve => sv.map.map fun ch =>
    match ch.reserve with
    | some r => (slotsB.get r).toInt
    | none => 0

/-- The blend of the old and the new feed at crossfade position `i` (R152). -/
def blend (i : Nat) (old new : Int) : Int :=
  rheDiv (old * (480 - (i + 1)) + new * (i + 1)) 480

/-- The selected samples: the feed in use, blended while a crossfade is present (R146, R152). -/
def Service.selected (sv : Service) (slotsA slotsB : Slots) : List Int :=
  let fresh := sv.rawFeed slotsA slotsB sv.feeds.inUse
  match sv.feeds.crossfade with
  | none => fresh
  | some cf => List.zipWith (blend cf.position) (sv.rawFeed slotsA slotsB cf.old) fresh

/-- The crossfade becomes absent after position 479 (R152). -/
def Crossfade.next (cf : Crossfade) : Option Crossfade :=
  if cf.position + 1 < Config.fadeFrames then some { cf with position := cf.position + 1 } else none

/-! ### Gain -/

/-- The ramp gain at frame `i` of a subblock (R115). -/
def rampGain (start stop : Int) (i : Nat) : Int :=
  rheDiv (start * 4800 + (stop - start) * (i + 1)) 4800

/-- The gained sample (R116). -/
def gained (g x : Int) : Int :=
  rheDiv (x * g) 1048576

/-! ### Measurement tap -/

/-- The coefficients of a second-order section (R59). -/
structure Coefficients where
  b0 : Rat
  b1 : Rat
  b2 : Rat
  a1 : Rat
  a2 : Rat
  deriving DecidableEq, Repr

/-- Stage 1, the shelf (R59). -/
def shelf : Coefficients where
  b0 := 153512485958697 / 100000000000000
  b1 := -269169618940638 / 100000000000000
  b2 := 119839281085285 / 100000000000000
  a1 := -169065929318241 / 100000000000000
  a2 := 73248077421585 / 100000000000000

/-- Stage 2, the high-pass (R59). -/
def highPass : Coefficients where
  b0 := 1
  b1 := -2
  b2 := 1
  a1 := -199004745483398 / 100000000000000
  a2 := 99007225036621 / 100000000000000

/-- One frame through a section: its output, and its memory afterwards (R59, R60). -/
def Section.step (st : Section) (c : Coefficients) (x : Rat) : Rat × Section :=
  let y := c.b0 * x + c.b1 * st.in1 + c.b2 * st.in2 - c.a1 * st.out1 - c.a2 * st.out2
  (y, { in1 := x, in2 := st.in1, out1 := y, out2 := st.out1 })

/-- One frame through a channel's filter: the weighted sample, and the state afterwards (R59). -/
def Filter.step (f : Filter) (x : Rat) : Rat × Filter :=
  let one := f.stage1.step shelf x
  let two := f.stage2.step highPass one.1
  (two.1, { stage1 := one.2, stage2 := two.2 })

/-- The filter input of a gained sample (R58). -/
def filterInput (u : Int) : Rat :=
  u / 8388608

/-- The tap at frame `i`: every channel filtered, its square added; at frame 0 the accumulators start from zero (R57 to
R62). -/
def Measurement.tap (m : Measurement) (i : Nat) (us : List Int) : Measurement :=
  let outs := List.zipWith (fun f u => Filter.step f (filterInput u)) m.filters us
  let before := if i = 0 then m.accums.map fun _ => 0 else m.accums
  { m with
    filters := outs.map (·.2)
    accums := List.zipWith (fun a y => a + y.1 * y.1) before outs }

/-- A feed monitor's tap at frame `i`: the squares of all channels of its feed (R140). -/
def Monitor.tap (m : Monitor) (i : Nat) (xs : List Int) : Monitor :=
  { m with accum := (if i = 0 then 0 else m.accum) + (xs.map fun x => filterInput x * filterInput x).sum }

/-! ### Look-ahead queue -/

/-- The stages of a queue entry (R118). -/
inductive SegmentStage where
  | filling
  | complete
  | waiting
  | output
  deriving DecidableEq, Repr

/-- Samples per channel that an entry holds (R118). -/
def Segment.filled (seg : Segment) : Nat :=
  (seg.lanes.headD []).length

/-- The stage an entry's contents show (R118). -/
def Segment.stage (seg : Segment) : SegmentStage :=
  if seg.output.isSome then .output
  else if seg.peak.isSome then .waiting
  else if Config.framesPerSegment ≤ seg.filled then .complete
  else .filling

/-- A new entry with its first frame (R119, step 1). -/
def Segment.begun (us : List Int) : Segment where
  lanes := us.map fun u => [u]
  peak := none
  required := none
  output := none

/-- A further frame of the entry being filled (R119, step 1). -/
def Segment.filledBy (seg : Segment) (us : List Int) : Segment :=
  { seg with lanes := List.zipWith (fun lane u => lane ++ [u]) seg.lanes us }

/-- The frame's samples go to the newest entry, which is a new one at the first frame of a segment (R119, step 1). -/
def enqueue (queue : List Segment) (first : Bool) (us : List Int) : List Segment :=
  if first then queue ++ [Segment.begun us]
  else
    match queue.reverse with
    | newest :: rest => (newest.filledBy us :: rest).reverse
    | [] => []

/-- The three intermediate points between `u1` and `u2` (R121). -/
def intervalPoints (u0 u1 u2 u3 : Int) : List Int :=
  [ rheDiv (-9 * u0 + 111 * u1 + 29 * u2 - 3 * u3) 128,
    rheDiv (-8 * u0 + 72 * u1 + 72 * u2 - 8 * u3) 128,
    rheDiv (-3 * u0 + 29 * u1 + 111 * u2 - 9 * u3) 128 ]

/-- The largest magnitude of some values. -/
def maxMagnitude (vs : List Int) : Nat :=
  vs.foldl (fun acc v => max acc v.natAbs) 0

/-- The largest magnitude among the intermediate points of consecutive samples (R121, R122). -/
def pointsPeak : List Int → Nat
  | u0 :: u1 :: u2 :: u3 :: rest =>
    max (maxMagnitude (intervalPoints u0 u1 u2 u3)) (pointsPeak (u1 :: u2 :: u3 :: rest))
  | _ => 0

/-- One channel's part of the segment peak: its 16 samples and the points of the intervals ending at them. `before` is the
lane of the segment before (empty: samples that count as 0, R120), `next` the first sample of the segment after (R122). -/
def lanePeak (before lane : List Int) (next : Int) : Nat :=
  let lastTwo := ([0, 0] ++ before).drop before.length
  max (maxMagnitude lane) (pointsPeak (lastTwo ++ lane ++ [next]))

/-- The segment peak of an entry between the entry before it, if the queue has one, and the one after (R122). -/
def segmentPeak (before : Option Segment) (seg after : Segment) : Nat :=
  let peaks := seg.lanes.zipIdx.map fun (lane, c) =>
    lanePeak ((before.map fun b => b.lanes.getD c []).getD []) lane ((after.lanes.getD c []).headD 0)
  peaks.foldl max 0

/-- The required gain of a segment peak under a ceiling amplitude (R124). -/
def requiredGain (c : Int) (pk : Nat) : Int :=
  if pk = 0 then Config.unity else min Config.unity (c * 1048576 / pk)

/-- The COMPLETE entry before the new one gets its peak and required gain under a peak ceiling in cdB (R119, step 2; R124). -/
def formPeak (cp : Int) (queue : List Segment) : List Segment :=
  match queue.reverse with
  | newest :: seg :: rest =>
    if seg.stage = .complete then
      let pk := segmentPeak rest.head? seg newest
      (newest :: { seg with peak := some pk, required := some (requiredGain (ceilingAmplitude cp) pk) } :: rest).reverse
    else queue
  | _ => queue

/-- The limiter gain of the oldest of 8 entries: the least required gain of it and the six after it, and at most the
release above the last applied gain (R126). -/
def windowGain (lastGain release : Int) (queue : List Segment) : Int :=
  (queue.take 7).foldl (fun acc seg => min acc (seg.required.getD Config.unity)) (lastGain + release)

/-- The oldest of 8 entries begins output: its ramp start and gain are fixed, and its gain is the last applied gain
(R119, step 3; R126). -/
def Limiter.outputStarted (l : Limiter) (release : Int) : Limiter :=
  match l.queue with
  | oldest :: rest =>
    if l.queue.length = Config.queueSize then
      let h := windowGain l.lastGain release l.queue
      let out : SegmentOutput := { rampStart := min l.lastGain (oldest.required.getD Config.unity), gain := h }
      { l with queue := { oldest with output := some out } :: rest, lastGain := h }
    else l
  | [] => l

/-- The limiter gain at frame `i` of the segment in OUTPUT (R126). -/
def limiterGain (out : SegmentOutput) (i : Nat) : Int :=
  rheDiv (out.rampStart * 16 + (out.gain - out.rampStart) * (i + 1)) 16

/-- Frame `i` of a segment output (R119, steps 4 and 5; R128): the limited samples of all channels, the subblock minimum,
and the entry's removal after its 16th frame. With no entry in OUTPUT every limited sample is 0. -/
def Limiter.output (l : Limiter) (i channels : Nat) : Limiter × List Int :=
  match l.queue with
  | oldest :: rest =>
    match oldest.output with
    | some out =>
      let gl := limiterGain out i
      ({ l with
          queue := if i + 1 = Config.framesPerSegment then rest else l.queue
          subMin := min l.subMin gl },
        oldest.lanes.map fun lane => rheDiv (lane.getD i 0 * gl) 1048576)
    | none => (l, List.replicate channels 0)
  | [] => (l, List.replicate channels 0)

/-- The limiter at a frame at position `i` of its segment (R119), with the peak ceiling and release of the profile in
force. -/
def Limiter.limit (l : Limiter) (i : Nat) (cp release : Int) (us : List Int) : Limiter × List Int :=
  let entered := enqueue l.queue (i == 0) us
  let peaked := { l with queue := if i = 0 then formPeak cp entered else entered }
  let begun := if i = 0 then peaked.outputStarted release else peaked
  begun.output i us.length

/-! ### Fades and output stage -/

/-- A pending fade is taken up at the first frame of a subblock (R129, R130). -/
def Limiter.fadeTakenUp (l : Limiter) : Limiter :=
  match l.pendingFade with
  | none => l
  | some .fadeIn => { l with fade := .fadeIn 0, pendingFade := none }
  | some .fadeOut =>
    { l with fade := if l.fade = .silent then .silent else .fadeOut 0, pendingFade := none }

/-- The faded sample (R131). -/
def faded : FadeState → Int → Int
  | .none, o => o
  | .fadeIn i, o => rheDiv (o * (i + 1)) 480
  | .fadeOut i, o => rheDiv (o * (480 - (i + 1))) 480
  | .silent, _ => 0

/-- The fade state after a frame (R131). -/
def FadeState.next : FadeState → FadeState
  | .none => .none
  | .fadeIn i => if i + 1 < Config.fadeFrames then .fadeIn (i + 1) else .none
  | .fadeOut i => if i + 1 < Config.fadeFrames then .fadeOut (i + 1) else .silent
  | .silent => .silent

/-- Saturation to 24 bits (R132). -/
def saturate (v : Int) : Int :=
  clampTo (-8388608) 8388607 v

/-- Fade, saturation and the count of clips (R131 to R133). -/
def Limiter.finish (l : Limiter) (os : List Int) : Limiter × List Int :=
  let fs := os.map (faded l.fade)
  let outs := fs.map saturate
  let clipped := (fs.filter fun v => saturate v != v).length
  ({ l with
      fade := l.fade.next
      clips := l.clips + clipped
      totalClips := min (l.totalClips + clipped) Config.max16 }, outs)

/-! ### The whole fast path -/

/-- One frame of a service: `i` is the frame in the subblock, `slotsA` and `slotsB` the frames just read. The result is the
service afterwards and its output samples in index order. -/
def Service.fastPath (sv : Service) (i : Nat) (slotsA slotsB : Slots) : Service × List Int :=
  let us := (sv.selected slotsA slotsB).map (gained (rampGain sv.gain.rampStart sv.gain.rampEnd i))
  let entered := if i = 0 then sv.lim.fadeTakenUp else sv.lim
  let limited :=
    entered.limit (i % Config.framesPerSegment) sv.profile.peakCeiling sv.profile.release us
  let finished := limited.1.finish limited.2
  ({ sv with
      meas := sv.meas.tap i us
      lim := finished.1
      feeds :=
        { sv.feeds with
          mainMonitor := sv.feeds.mainMonitor.map fun m =>
            { m with monitor := m.monitor.tap i (sv.rawFeed slotsA slotsB .main) }
          reserveMonitor := sv.feeds.reserveMonitor.map fun m => m.tap i (sv.rawFeed slotsA slotsB .reserve)
          crossfade := sv.feeds.crossfade.bind Crossfade.next } }, finished.2)

/-- A service at an output frame: in a running state outside its entry subblock it runs its fast path; otherwise it gives no
samples (R17, R38, R48). -/
def Service.atFrame (sv : Service) (i : Nat) (slotsA slotsB : Slots) : Service × List Int :=
  if sv.runsFastPath then sv.fastPath i slotsA slotsB else (sv, [])

end Sys2Proof.Machine
end

