-- ==== Sys2Proof/Machine/Close.lean ====
section
/-! DEFINITION. The close of one service, within SUBBLOCK_END: the profile stage (R101), measurement (R62 to R71),
integration (R75 to R85), the gain step (R105 to R113), limiter reporting (R134 to R136), the feed stage (R141 to R155), and
the changes of lifecycle state (R43 to R46, R52). The stages read the state the subblock ran in (R42). -/

namespace Sys2Proof.Machine

/-! ### Profile stage (R101) -/

/-- The required gain of a WAITING entry formed again under a new peak ceiling (R125). -/
def Segment.relimited (seg : Segment) (c : Int) : Segment :=
  match seg.stage, seg.peak with
  | .waiting, some pk => { seg with required := some (requiredGain c pk) }
  | _, _ => seg

/-- A pending profile is put in force: G is clamped into its limits, and the queue's required gains are formed again (R101,
R125). -/
def Service.profileStage (sv : Service) : Service :=
  match sv.pendingProfile with
  | none => sv
  | some p =>
    { sv with
      profile := p
      pendingProfile := none
      gain := { sv.gain with g := clampTo p.gainFloor p.gainCeiling sv.gain.g }
      lim := { sv.lim with queue := sv.lim.queue.map fun seg => seg.relimited (ceilingAmplitude p.peakCeiling) } }

/-! ### Measurement stage (R62 to R71) -/

/-- Q, the service power of the subblock (R62, R63). -/
def Service.power (sv : Service) : Rat :=
  (List.zipWith (fun w a => w * (a / 4800)) ((sv.layout.map Layout.weights).getD []) sv.meas.accums).sum

/-- An append to a ring that holds at most 30 (R65). -/
def ringAppend (ring : List Rat) (q : Rat) : List Rat :=
  (if ring.length < Config.ringSize then ring else ring.tail) ++ [q]

/-- conv of the mean of some powers. -/
def meanLoudness (powers : List Rat) : Int :=
  conv (powers.sum / powers.length)

/-- M: the newest four entries, present from 4 entries on (R69). -/
def momentaryOf (ring : List Rat) : Option Int :=
  if 4 ≤ ring.length then some (meanLoudness (ring.drop (ring.length - 4))) else none

/-- S: all entries, present from 4 entries on (R70). -/
def shortTermOf (ring : List Rat) : Option Int :=
  if 4 ≤ ring.length then some (meanLoudness ring) else none

/-- The accumulators begin the next subblock from zero (R62, R64). -/
def Measurement.emptied (m : Measurement) : Measurement :=
  { m with accums := m.accums.map fun _ => 0 }

/-- The append of Q, and M and S from the ring after it (R65, R71). -/
def Measurement.appended (m : Measurement) (q : Rat) (stamp : Word32) : Measurement :=
  let ring := ringAppend m.ring q
  { m.emptied with
    ring := ring
    lastAppend := some stamp
    momentary := momentaryOf ring
    shortTerm := shortTermOf ring }

/-- The measurement stage (R64). -/
def Service.measurementStage (sv : Service) (measuring : Bool) (stamp : Word32) : Service :=
  { sv with meas := if measuring then sv.meas.appended sv.power stamp else sv.meas.emptied }

/-! ### Integration stage (R75 to R85) -/

/-- The bin of a gating block at or above the absolute gate (R76). -/
def binOf (m : Int) : Fin 800 :=
  Fin.ofNat 800 (min ((m + 7000) / 10).toNat 799)

/-- A gating block that passes the absolute gate is counted (R76, R77), and I is formed again when the histogram has changed
(R80). -/
def Integration.counted (i : Integration) (m : Int) : Integration :=
  if m < -7000 then i
  else
    let count := i.bins.get (binOf m)
    let bins := i.bins.set (binOf m) (satInc Config.max32 count)
    let total := satInc Config.max32 i.total
    { i with
      bins := bins
      total := total
      integrated :=
        if count < Config.max32 ∨ i.total < Config.max32 then some (integratedLoudness bins.toList)
        else i.integrated }

/-- The deviation test, while integration is ready (R81, R83): the flag afterwards. -/
def Integration.tested (i : Integration) (t tolerance : Int) : Integration :=
  match i.integrated with
  | some loud => if i.ready then { i with deviation := deviationAfter i.deviation loud t tolerance } else i
  | none => i

/-- The integration stage in its order: count, I, deviation test, subblocks since mark (R85). `testing` tells whether the
close makes a deviation test (R83); in DROPPED it does, though R51 has the deviation flag hold there (log 29). -/
def Service.integrationStage (sv : Service) (measuring testing : Bool) : Service :=
  let one :=
    match measuring, sv.meas.momentary with
    | true, some m => sv.integ.counted m
    | _, _ => sv.integ
  let two := if testing then one.tested sv.profile.target sv.profile.tolerance else one
  { sv with integ := if measuring then { two with sinceMark := satInc Config.max32 two.sinceMark } else two }

/-- The DEVIATION raise of a close that set the flag (R84). -/
def deviationNotice (before : Bool) (sv : Service) : List Detail :=
  if !before && sv.integ.deviation then [.deviation (sv.integ.integrated.getD 0) sv.profile.target] else []

/-! ### Gain step (R106 to R113) -/

/-- The reference loudness (R109). -/
def referenceLoudness (p : Profile) (i : Integration) (s : Int) : Int :=
  match i.ready, i.integrated with
  | true, some loud => rheDiv (p.agility * s + (100 - p.agility) * loud) 100
  | _, _ => s

/-- The desired gain (R110). -/
def desiredGain (p : Profile) (g reference : Int) : Int :=
  clampTo p.gainFloor p.gainCeiling (g + p.target - reference)

/-- The slew (R111); a PRIMING step does not rise. -/
def slew (p : Profile) (priming : Bool) (g d : Int) : Int :=
  if g < d then (if priming then g else g + min (d - g) p.riseStep) else g - min (g - d) p.fallStep

/-- Freeze, reference, desired gain and slew (R108 to R111). -/
def steered (p : Profile) (priming : Bool) (m : Measurement) (i : Integration) (g : Int) : Int :=
  match m.momentary, m.shortTerm with
  | some mom, some s =>
    if mom < p.target - p.freezeDepth then g else slew p priming g (desiredGain p g (referenceLoudness p i s))
  | _, _ => g

/-- The gain action of a close (6.6): by the state the close reads and whether it is the entry close. `oldG` is G before
the close, from whose linear gain the next ramp starts (R113). -/
def Service.gainStage (sv : Service) (read : Lifecycle) (entry : Bool) (oldG : Int) : Service :=
  let gc := sv.gain
  let stepped :=
    match read with
    | .bypass => { gc with g := 0 }
    | .priming | .active =>
      if entry then gc
      else if gc.regain then { gc with g := sv.profile.initialGain, regain := false }
      else { gc with g := steered sv.profile (read == Lifecycle.priming) sv.meas sv.integ gc.g }
    | .vacant | .idle | .dropped | .halting => gc
  { sv with gain := { stepped with rampStart := lin oldG, rampEnd := lin stepped.g } }

/-! ### Limiter reporting (R134 to R136) -/

/-- The subblock minimum and clip count are rolled over (R134). -/
def Service.limiterStage (sv : Service) : Service :=
  { sv with
    lim :=
      { sv.lim with lastSubMin := sv.lim.subMin, lastClips := sv.lim.clips, subMin := Config.unity, clips := 0 } }

/-- The reduction of the last closed subblock (R134, R137). -/
def Limiter.reduction (l : Limiter) : Int :=
  reductionOf l.lastSubMin

/-- The LIMIT and CLIP raises of a close (R135, R136). -/
def limiterNotices (sv : Service) : List Detail :=
  (if sv.profile.heavyLimit < sv.lim.reduction then [.limit sv.lim.reduction] else [])
    ++ (if 0 < sv.lim.lastClips then [.clip sv.lim.lastClips sv.lim.totalClips] else [])

/-! ### Feed stage (R141 to R155) -/

/-- A monitor's level and silent run at an updating close (R141, R142). -/
def Monitor.closed (m : Monitor) (channels : Nat) (usable : Bool) (threshold : Int) : Monitor :=
  let level := feedLevel (m.accum / (4800 * channels))
  { level := level
    silentRun := if usable && decide (level < threshold) then satInc Config.max16 m.silentRun else 0
    accum := 0 }

/-- The main-good run (R143). -/
def goodRunAfter (rank : Rank) (run : Nat) : Nat :=
  if rank = .good then satInc Config.max16 run else 0

/-- Steps 1 and 2 of the feed stage: levels, silent runs and the main-good run (R144). -/
def Service.monitorsClosed (sv : Service) (usableA usableB : Bool) : Service :=
  let threshold := sv.profile.silenceThreshold
  let main := sv.feeds.mainMonitor.map fun m => m.monitor.closed sv.channels usableA threshold
  let reserve := sv.feeds.reserveMonitor.map fun m => m.closed sv.channels usableB threshold
  { sv with
    feeds :=
      { sv.feeds with
        mainMonitor := sv.feeds.mainMonitor.map fun m =>
          { monitor := m.monitor.closed sv.channels usableA threshold
            goodRun := goodRunAfter (rankOf usableA sv.profile.silenceTime main) m.goodRun }
        reserveMonitor := reserve } }

/-- At a close that makes no feed stage the accumulations are discarded and the monitors keep their values (R144). -/
def Service.monitorsDiscarded (sv : Service) : Service :=
  { sv with
    feeds :=
      { sv.feeds with
        mainMonitor := sv.feeds.mainMonitor.map fun m => { m with monitor := { m.monitor with accum := 0 } }
        reserveMonitor := sv.feeds.reserveMonitor.map fun m => { m with accum := 0 } } }

/-- What a feed stage decides (R148 to R154). -/
inductive FeedDecision where
  | stay
  | switch (dest : Feed) (cause : FeedCause)
  | drop (failed : Feed) (cause : FeedCause)
  | resume (taken : Feed) (cause : FeedCause)
  deriving DecidableEq, Repr

/-- The other feed. -/
def Feed.other : Feed → Feed
  | .main => .reserve
  | .reserve => .main

/-- The rank of one of two feeds. -/
def pickRank (main reserve : Rank) : Feed → Rank
  | .main => main
  | .reserve => reserve

/-- Auto-return applies (R149). -/
def autoReturns (p : Profile) (inUse : Feed) (goodRun : Nat) (main reserve : Rank) : Bool :=
  inUse == .reserve && p.autoReturn && decide (p.returnHold ≤ goodRun) && decide (reserve.code ≤ main.code)

/-- The decision in AUTO (R148). -/
def decideAuto (p : Profile) (inUse : Feed) (goodRun : Nat) (main reserve : Rank) : FeedDecision :=
  let mine := pickRank main reserve inUse
  let others := pickRank main reserve inUse.other
  if mine.code < others.code then .switch inUse.other .rank
  else if autoReturns p inUse goodRun main reserve then .switch .main .autoReturn
  else if mine = .unusable ∧ (others = .unusable ∨ others = .absent) then .drop inUse .rank
  else .stay

/-- The decision in a forced mode (R150, R153). -/
def decideForced (forced inUse : Feed) (rank : Rank) : FeedDecision :=
  if rank.usable then (if inUse = forced then .stay else .switch forced .forced) else .drop forced .forced

/-- The exit check of a DROPPED service (R154). -/
def exitCheck (mode : SelectionMode) (main reserve : Rank) : FeedDecision :=
  match mode with
  | .auto =>
    if main.usable && decide (reserve.code ≤ main.code) then .resume .main .rank
    else if reserve.usable then .resume .reserve .rank
    else .stay
  | .forceMain => if main.usable then .resume .main .forced else .stay
  | .forceReserve => if reserve.usable then .resume .reserve .forced else .stay

/-- Steps 3 and 4 of the feed stage (R144): the decision of a close, by the state it reads. -/
def Service.feedDecision (sv : Service) (read : Lifecycle) (usableA usableB : Bool) : FeedDecision :=
  let main := sv.mainRank usableA
  let reserve := sv.reserveRank usableB
  match read with
  | .dropped => exitCheck sv.feeds.mode main reserve
  | .priming | .active | .bypass =>
    match sv.feeds.mode with
    | .auto => decideAuto sv.profile sv.feeds.inUse ((sv.feeds.mainMonitor.map (·.goodRun)).getD 0) main reserve
    | .forceMain => decideForced .main sv.feeds.inUse main
    | .forceReserve => decideForced .reserve sv.feeds.inUse reserve
  | .vacant | .idle | .halting => .stay

/-- The feed in use and the crossfade after a decision: a crossfade goes with a switch alone (R151, R153, R154). -/
def Feeds.decided (f : Feeds) : FeedDecision → Feeds
  | .stay => f
  | .switch dest _ => { f with inUse := dest, crossfade := some { old := f.inUse, position := 0 } }
  | .drop failed _ => { f with inUse := failed }
  | .resume taken _ => { f with inUse := taken, crossfade := none }

/-- The FEED raise of a decision that changes the feed in use (R155). -/
def feedNotice (before : Feed) : FeedDecision → List Detail
  | .stay => []
  | .switch dest cause => [.feed dest cause]
  | .drop failed cause => if failed = before then [] else [.feed failed cause]
  | .resume taken cause => if taken = before then [] else [.feed taken cause]

/-! ### Lifecycle at the close -/

/-- The resume state that a state leaves for DROPPED with (R44). -/
def resumeOf : Lifecycle → Option Resume
  | .priming => some .priming
  | .active => some .active
  | .bypass => some .bypass
  | .vacant | .idle | .dropped | .halting => none

/-- PRIMING completes when the ring is full after this close's append (R43). -/
def primedState (read : Lifecycle) (measuring : Bool) (ring : List Rat) : Lifecycle :=
  if read = .priming ∧ measuring ∧ ring.length = Config.ringSize then .active else read

/-- Entry to DROPPED (R44). -/
def Service.dropped (sv : Service) (leaving : Lifecycle) : Service :=
  { sv with
    lifecycle := .dropped
    resume := resumeOf leaving
    lim := { sv.lim with pendingFade := some .fadeOut } }

/-- The resume from DROPPED (R45). -/
def Service.resumed (sv : Service) : Service :=
  { sv with
    lifecycle := (sv.resume.map Resume.lifecycle).getD .priming
    resume := none
    meas := sv.meas.sized sv.channels
    lim := { Limiter.queueCleared sv.lim with pendingFade := some .fadeIn } }

/-- The close phase of a HALTING service: HALT becomes FADE_OUT with a pending fade OUT (R52), FADE_OUT becomes IDLE with no
crossfade (R46, R161). -/
def Service.haltStage (sv : Service) : Service :=
  match sv.haltPhase with
  | some .halt => { sv with haltPhase := some .fadeOut, lim := { sv.lim with pendingFade := some .fadeOut } }
  | some .fadeOut =>
    { sv with haltPhase := none, lifecycle := .idle, feeds := { sv.feeds with crossfade := none } }
  | none => sv

/-- The change of lifecycle state that a close makes, after its other stages. -/
def Service.lifecycleStage (sv : Service) (read : Lifecycle) (measuring : Bool) (decision : FeedDecision) : Service :=
  let reached := primedState read measuring sv.meas.ring
  match read, decision with
  | .halting, _ => sv.haltStage
  | _, .drop _ _ => sv.dropped reached
  | _, .resume _ _ => sv.resumed
  | _, _ => { sv with lifecycle := reached }

/-- The cause of a STATE notice, from the states before and after a close (R47). -/
def stateCause (before after : Lifecycle) : Option StateCause :=
  if before = after then none
  else
    match after with
    | .idle => some .halted
    | .dropped => some .noFeed
    | .active => if before = .priming then some .primed else some .resumed
    | .priming | .bypass => some .resumed
    | .vacant | .halting => none

/-- The STATE raise of a close (R47). -/
def stateNotice (before : Lifecycle) (sv : Service) : List Detail :=
  match stateCause before sv.lifecycle with
  | some cause => [.state sv.lifecycle sv.resume cause 0 0]
  | none => []

/-! ### The whole close -/

/-- What a close of a service leaves: its record, its raises in the kind order of R178, and the units it releases. -/
structure Closed where
  service : Service
  notices : List Detail
  released : Nat
  deriving DecidableEq, Repr

/-- The close of a service in a running state (R42, R64, R85, R106, R134, R144). `stamp` is the subblock that has just
closed, `usableA` and `usableB` the usability of the ports after its assessment (R158). A close in DROPPED makes the deviation
test, by R83 against R51 (log 29). -/
def Service.close (sv : Service) (usableA usableB : Bool) (stamp : Word32) : Closed :=
  let read := sv.lifecycle
  let entry := sv.entryMarker
  let measuring := Lifecycle.measuring read && !entry
  let deciding := (Lifecycle.measuring read || read == .dropped) && !entry
  let s1 := sv.profileStage
  let s2 := s1.measurementStage measuring stamp
  let s3 := s2.integrationStage measuring deciding
  let s4 := s3.gainStage read entry sv.gain.g
  let s5 := s4.limiterStage
  let s6 := if deciding then s5.monitorsClosed usableA usableB else s5.monitorsDiscarded
  let decision := if deciding then s6.feedDecision read usableA usableB else .stay
  let s7 := { s6 with feeds := s6.feeds.decided decision }
  let s8 := { s7.lifecycleStage read measuring decision with entryMarker := false }
  { service := s8
    notices := stateNotice read s8 ++ feedNotice sv.feeds.inUse decision ++ deviationNotice sv.integ.deviation s3
      ++ limiterNotices s5
    released := if s8.lifecycle = .idle then sv.cost else 0 }

end Sys2Proof.Machine
end

