-- ==== Sys2Proof/Machine/Reports.lean ====
section
/-! DEFINITION. The requests that read and change nothing: IDENTIFY (R171), QUERY (R172, R173), PEEK (R174 with R22, R73, R91,
R138, R160), and UNKNOWN_KIND (R167). -/

namespace Sys2Proof.Machine

/-! ### Identify (R171) -/

/-- Identify (R171): vendor, part, revision, capacity, store status. -/
def identifyAct (f : ControlFrame) (s : State) : State × Answer :=
  if f.unit ≠ deviceUnit then (s, Answer.plain .unit)
  else if f.payload ≠ [] then (s, Answer.length f)
  else (s, Answer.ok [0x0B, 0x5A, 0x00, 0x16, 0x01, byteOf Config.capacity, StoreStatus.code s.storeStatus])

/-! ### Query (R172, R173) -/

/-- An optional value in two bytes, 0 when absent (R172). -/
def optionalBytes (v : Option Int) : List Byte :=
  beBytes 2 (v.getD 0)

/-- The flags byte of the service record (R172). -/
def presentFlags (sv : Service) : Byte :=
  byteOf ((if sv.meas.momentary.isSome then 1 else 0) + (if sv.meas.shortTerm.isSome then 2 else 0)
    + (if sv.integ.integrated.isSome then 4 else 0) + (if sv.pendingProfile.isSome then 8 else 0))

/-- The service record in the layout of R172. The deviation flag is not in it, as R84 says, though R46 names the flag among what
stays readable there (log 32). -/
def serviceRecord (sv : Service) (usableA usableB : Bool) : List Byte :=
  [ Lifecycle.code sv.lifecycle, resumeCode sv.resume, (sv.layout.map Layout.code).getD 0,
    SelectionMode.code sv.feeds.mode, Feed.code sv.feeds.inUse, byteOf (sv.mainRank usableA).code,
    byteOf (sv.reserveRank usableB).code, presentFlags sv ]
    ++ optionalBytes sv.meas.momentary ++ optionalBytes sv.meas.shortTerm ++ optionalBytes sv.integ.integrated
    ++ beBytes 2 sv.gain.g ++ beBytes 2 sv.lim.reduction ++ beBytes 2 sv.lim.lastClips ++ beBytes 2 sv.lim.totalClips
    ++ beBytes 4 sv.integ.sinceMark ++ beBytes 4 sv.integ.total ++ [byteOf sv.cost]

/-- The port record (R173). -/
def portRecord (r : Receiver) : List Byte :=
  [SyncState.code r.sync, flagCode r.centred, byteOf r.store.length]
    ++ beBytes 2 r.erroredRun ++ beBytes 2 r.cleanRun ++ beBytes 2 r.errorsLast ++ beBytes 2 r.slips
    ++ beBytes 2 r.errorLimit

/-- The device record (R173), with the PROTECT level as it stands when served. -/
def deviceRecord (s : State) : List Byte :=
  [ClockSource.code s.clock.source] ++ beBytes 4 s.subblock.toNat
    ++ [ byteOf s.committed, byteOf s.unitsFree, StoreStatus.code s.storeStatus, PinLevel.code s.pins.protect,
         flagCode s.control.storeJob.isSome, byteOf s.notices.entries.length, ResetCause.code s.resetCause ]

/-- The record of the addressed unit, if it has one (R172, R173). -/
def recordOf (unit : Byte) (s : State) : Option (List Byte) :=
  match serviceOf unit, portOf unit with
  | some n, _ => some (serviceRecord (s.service n) s.portA.usable s.portB.usable)
  | none, some p => some (portRecord (s.receiver p))
  | none, none => if unit = deviceUnit then some (deviceRecord s) else none

/-- Query (R172). -/
def queryAct (f : ControlFrame) (s : State) : State × Answer :=
  match recordOf f.unit s with
  | none => (s, Answer.plain .unit)
  | some record => if f.payload ≠ [] then (s, Answer.length f) else (s, Answer.ok record)

/-! ### Peek (R174) -/

/-- A slot table page (R22). -/
def tablePage (t : SlotTable) : List Byte :=
  t.toList.flatMap fun o =>
    match o with
    | some o => [byteOf o.service.val, byteOf o.channel.val]
    | none => [0xFF, 0xFF]

/-- Page 0 of a service, the history ring (R73). -/
def ringPage (m : Measurement) : List Byte :=
  if m.ring = [] then [0]
  else byteOf m.ring.length :: beBytes 4 (m.lastAppend.getD 0).toNat ++ m.ring.flatMap fun q => beBytes 2 (conv q)

/-- Pages 1 to 16 of a service, the gating histogram (R91). -/
def histogramPage (i : Integration) (page : Nat) : List Byte :=
  beBytes 2 (50 * (page - 1) : Nat) ++ beBytes 4 i.total
    ++ ((i.bins.toList.drop (50 * (page - 1))).take 50).flatMap fun n => beBytes 4 n

/-- Stage codes of a queue entry (R138). -/
def SegmentStage.code : SegmentStage → Byte
  | .filling => 0
  | .complete => 1
  | .waiting => 2
  | .output => 3

/-- Page 17 of a service, the look-ahead queue (R138). -/
def queuePage (l : Limiter) : List Byte :=
  byteOf l.queue.length :: beBytes 3 l.lastGain
    ++ l.queue.flatMap fun seg =>
      SegmentStage.code seg.stage :: beBytes 4 (seg.peak.getD 0 : Nat) ++ beBytes 3 (seg.required.getD 0)

/-- Page 18 of a service, the feed units (R160). -/
def feedPage (sv : Service) (usableA usableB : Bool) : List Byte :=
  let main :=
    match sv.feeds.mainMonitor with
    | some m =>
      byteOf (sv.mainRank usableA).code :: beBytes 2 m.monitor.level ++ beBytes 2 m.monitor.silentRun
        ++ beBytes 2 m.goodRun
    | none => []
  let reserve :=
    match sv.feeds.reserveMonitor with
    | some m => byteOf (sv.reserveRank usableB).code :: beBytes 2 m.level ++ beBytes 2 m.silentRun
    | none => []
  [ SelectionMode.code sv.feeds.mode, Feed.code sv.feeds.inUse,
    byteOf ((if sv.feeds.mainMonitor.isSome then 1 else 0) + (if sv.feeds.reserveMonitor.isSome then 1 else 0)) ]
    ++ main ++ reserve

/-- A page of a service (R174). -/
def servicePage (sv : Service) (usableA usableB : Bool) (page : Nat) : Option (List Byte) :=
  if page = 0 then some (ringPage sv.meas)
  else if page ≤ 16 then some (histogramPage sv.integ page)
  else if page = 17 then some (queuePage sv.lim)
  else if page = 18 then some (feedPage sv usableA usableB)
  else none

/-- The page of the addressed unit: `none` for a unit without pages, `some none` for a page it does not have (R174). -/
def pageOf (unit : Byte) (s : State) (page : Nat) : Option (Option (List Byte)) :=
  match serviceOf unit, tableOf unit with
  | some n, _ => some (servicePage (s.service n) s.portA.usable s.portB.usable page)
  | none, some t => some (if page = 0 then some (tablePage (s.table t)) else none)
  | none, none => none

/-- Peek (R174). -/
def peekAct (f : ControlFrame) (s : State) : State × Answer :=
  match f.payload with
  | [page] =>
    match pageOf f.unit s page.toNat with
    | none => (s, Answer.plain .unit)
    | some none => (s, { status := .range, detail := [page] })
    | some (some bytes) => (s, Answer.ok bytes)
  | _ => if pageOf f.unit s 0 = none then (s, Answer.plain .unit) else (s, Answer.length f)

/-! ### Unknown kinds (R167) -/

/-- UNKNOWN_KIND (R167): the oldest request is refused with UNKNOWN when its KIND is not in the catalogue. -/
def unknownKind (s : State) : State :=
  match s.servable (fun k => !catalogue.contains k) with
  | none => s
  | some f => (s.dequeued.appendReply (replyTo f .unknown []) .ordinary).kick

/-- IDENTIFY (R171). -/
def identifyRequest (s : State) : State :=
  serve 0x01 identifyAct s

/-- QUERY (R172). -/
def queryRequest (protect : PinLevel) (s : State) : State :=
  serve 0x02 (fun f s1 => queryAct f (s1.sampleProtect protect)) s

/-- PEEK (R174). -/
def peekRequest (s : State) : State :=
  serve 0x03 peekAct s

def execUnknownKind (s : State) : Host.Outcome State Fault Refusal :=
  .next (unknownKind s)

def execIdentify (s : State) : Host.Outcome State Fault Refusal :=
  .next (identifyRequest s)

def execQuery (protect : PinLevel) (s : State) : Host.Outcome State Fault Refusal :=
  .next (queryRequest protect s)

def execPeek (s : State) : Host.Outcome State Fault Refusal :=
  .next (peekRequest s)

end Sys2Proof.Machine
end

