-- ==== Sys2Proof/Machine/Settings.lean ====
section
/-! DEFINITION. The requests that write settings: PROFILE (6.2), PORTS (R9), NOTIFY (R182). -/

namespace Sys2Proof.Machine

/-! ### Profile (R94 to R100) -/

/-- The index of the first protected field, 1, 7 or 9, in which two profiles differ (R95). -/
def protectedDiffers (request reference : Profile) : Option Byte :=
  if request.target ≠ reference.target then some 1
  else if request.gainCeiling ≠ reference.gainCeiling then some 7
  else if request.peakCeiling ≠ reference.peakCeiling then some 9
  else none

/-- A Profile in force at once, in VACANT and IDLE (R97). -/
def Service.profiledAtOnce (sv : Service) (p : Profile) : Service :=
  { sv with
    profile := p
    gain := { sv.gain with g := p.initialGain, rampStart := lin p.initialGain, rampEnd := lin p.initialGain } }

/-- Profile for service `n`, with the PROTECT level when it is served (R94). -/
def profileAct (protect : PinLevel) (n : ServiceIndex) (f : ControlFrame) (s : State) : State × Answer :=
  let sv := s.service n
  if f.payload.length ≠ 32 then (s, Answer.length f)
  else
    match profileOfPayload f.payload with
    | .error index => (s, { status := .range, detail := [byteOf index] })
    | .ok p =>
      match (if protect = .high then protectedDiffers p (sv.pendingProfile.getD sv.profile) else none) with
      | some index => (s, { status := .protectedField, detail := [index] })
      | none =>
        if Lifecycle.running sv.lifecycle then
          (s.setService n { sv with pendingProfile := some p },
            Answer.ok [if sv.pendingProfile.isSome then 2 else 1])
        else (s.setService n (sv.profiledAtOnce p), Answer.ok [0])

/-! ### Ports (R9) -/

/-- Ports (R9). No rule gives its refusals a detail, so they are the status byte alone (R168, log 21). -/
def portsAct (f : ControlFrame) (s : State) : State × Answer :=
  match portOf f.unit with
  | none => (s, Answer.plain .unit)
  | some p =>
    if f.payload.length ≠ 2 then (s, Answer.plain .length)
    else
      let limit := beNat f.payload
      if limit = 0 ∨ 4800 < limit then (s, Answer.plain .range)
      else (s.setReceiver p { s.receiver p with errorLimit := limit }, Answer.ok [])

/-! ### Notify (R182) -/

/-- Notify (R182). -/
def notifyAct (f : ControlFrame) (s : State) : State × Answer :=
  if f.unit ≠ deviceUnit then (s, Answer.plain .unit)
  else
    match f.payload with
    | [mask] =>
      let after := Notices.masked s.notices mask
      ({ s with notices := after },
        Answer.ok [mask, byteOf (s.notices.entries.length - after.entries.length)])
    | _ => (s, Answer.length f)

/-- PROFILE (R94). -/
def profileRequest (protect : PinLevel) (s : State) : State :=
  serve 0x12 (fun f s1 => onService (profileAct protect) f (s1.sampleProtect protect)) s

/-- PORTS (R9). -/
def portsRequest (s : State) : State :=
  serve 0x20 portsAct s

/-- NOTIFY (R182). -/
def notifyRequest (s : State) : State :=
  serve 0x21 notifyAct s

def execProfile (protect : PinLevel) (s : State) : Host.Outcome State Fault Refusal :=
  .next (profileRequest protect s)

def execPorts (s : State) : Host.Outcome State Fault Refusal :=
  .next (portsRequest s)

def execNotify (s : State) : Host.Outcome State Fault Refusal :=
  .next (notifyRequest s)

end Sys2Proof.Machine
end

