-- ==== Sys2Proof/Machine/Control.lean ====
section
/-! DEFINITION. The control port's line (chapter 9): CONTROL_BYTE_RECEIVED, CONTROL_FRAME_COMPLETE, LENGTH_FAULT,
FRAME_TIMEOUT, TRANSMIT_FRAME_END. -/

namespace Sys2Proof.Machine

/-! ### Receiving (R164 to R166) -/

/-- The byte receiver after a byte (R164). A 0xA5 met in HUNT begins a frame only while the reply queue holds 7 or fewer.
A frame that is complete or has a faulty LEN takes no further byte: its own step is due (log 2). -/
def ByteReceiver.take (r : ByteReceiver) (replies : Nat) (b : Byte) : ByteReceiver :=
  match r with
  | .hunt => if b = 0xA5 ∧ replies ≤ 7 then .inFrame [] else .hunt
  | .inFrame bytes => if frameComplete bytes || lengthFaulty bytes then .inFrame bytes else .inFrame (bytes ++ [b])

/-- CONTROL_BYTE_RECEIVED (R162, R164): a byte whose stop bit is low is discarded. -/
def controlByteReceived (value : Byte) (stop : PinLevel) (s : State) : State :=
  if s.operating && stop == .high then
    { s with control := { s.control with receiver := s.control.receiver.take (replyCount s.control.replies) value } }
  else s

/-- The frame in progress is discarded and answered by a Frame fault reply (R165). -/
def State.frameDiscarded (s : State) (reason : Byte) : State :=
  ({ s with control := { s.control with receiver := .hunt } }.appendReply (frameFault reason) .ordinary).kick

/-- A checked frame is handed to the inbox, or answered FULL (R166). -/
def State.handOver (s : State) (f : ControlFrame) : State :=
  if s.control.inbox.length < Config.inboxSize then
    { s with control := { s.control with receiver := .hunt, inbox := s.control.inbox ++ [f] } }
  else
    ({ s with control := { s.control with receiver := .hunt } }.appendReply (replyTo f .full []) .ordinary).kick

/-- CONTROL_FRAME_COMPLETE (R164 to R166): the check is tested, and the frame is handed over or discarded with CHECK. -/
def controlFrameComplete (s : State) : State :=
  match s.control.receiver with
  | .inFrame bytes =>
    if s.operating && frameComplete bytes then
      if frameIntact bytes then s.handOver (frameOf bytes) else s.frameDiscarded 3
    else s
  | .hunt => s

/-- LENGTH_FAULT (R165). -/
def lengthFault (s : State) : State :=
  match s.control.receiver with
  | .inFrame bytes => if s.operating && lengthFaulty bytes then s.frameDiscarded 2 else s
  | .hunt => s

/-- FRAME_TIMEOUT (R165): the timer runs in IN_FRAME, and passes 20 ms with neither a completion nor a LENGTH fault due. -/
def frameTimeout (s : State) : State :=
  match s.control.receiver with
  | .inFrame bytes =>
    if s.operating && !frameComplete bytes && !lengthFaulty bytes then s.frameDiscarded 1 else s
  | .hunt => s

/-! ### Transmitting (R169, R170, R180) -/

/-- What the end of the Reset's own reply leaves of an accepted Reset: the reset is due (R188). -/
def ResetPhase.replySent : ResetPhase → ResetPhase
  | .waiting option => .due option
  | .none => .none
  | .due option => .due option

/-- A reply frame has gone: it leaves the queue, and with the Reset's reply the reset is due (R169, R188). -/
def ControlPort.replyGone (c : ControlPort) : ControlPort :=
  match c.replies with
  | r :: rest =>
    { c with
      replies := rest
      sending := .idle
      resetPhase := if r.mark = .reset then c.resetPhase.replySent else c.resetPhase }
  | [] => { c with sending := .idle }

/-- TRANSMIT_FRAME_END (R170): the frame is removed or its notice entry moved (R180), and the free transmitter chooses the next
at the step's end (log 16). The worked sequence of chapter 10 leaves the kept PORT entry unsent until centring; R170 is followed
against it (log 30). -/
def transmitFrameEnd (s : State) : State :=
  if s.operating then
    match s.control.sending with
    | .idle => s
    | .reply _ => { s with control := s.control.replyGone }.kick
    | .notice _ =>
      { s with control := { s.control with sending := .idle }, notices := Notices.frameDone s.notices }.kick
  else s

def execControlByteReceived (value : Byte) (stop : PinLevel) (s : State) : Host.Outcome State Fault Refusal :=
  .next (controlByteReceived value stop s)

def execControlFrameComplete (s : State) : Host.Outcome State Fault Refusal :=
  .next (controlFrameComplete s)

def execLengthFault (s : State) : Host.Outcome State Fault Refusal :=
  .next (lengthFault s)

def execFrameTimeout (s : State) : Host.Outcome State Fault Refusal :=
  .next (frameTimeout s)

def execTransmitFrameEnd (s : State) : Host.Outcome State Fault Refusal :=
  .next (transmitFrameEnd s)

end Sys2Proof.Machine
end

