-- ==== Sys2Proof/Machine/Slots.lean ====
section
/-! DEFINITION. The requests that write a service's map (chapter 2): MAP, UNMAP. -/

namespace Sys2Proof.Machine

/-- The reply to a refused Map (R30). -/
def mapRefused (f : ControlFrame) : MapRefusal → Answer
  | .length => Answer.length f
  | .range channel field => { status := .range, detail := [channel, field] }
  | .conflict table slot owner =>
    { status := .conflict
      detail := [TableId.code table, byteOf slot.val, byteOf owner.service.val, byteOf owner.channel.val] }

/-- An accepted map of service `n`: the slot tables in one step, and the record (R28, R29). -/
def State.mapService (s : State) (n : ServiceIndex) (layout : Layout) (channels : List ChannelMap) : State :=
  (s.remapped n channels).setService n ((s.service n).mapped layout channels)

/-- Map for service `n` (R24 to R30). -/
def mapAct (n : ServiceIndex) (f : ControlFrame) (s : State) : State × Answer :=
  let sv := s.service n
  if Lifecycle.running sv.lifecycle then (s, { status := .state, detail := [Lifecycle.code sv.lifecycle] })
  else
    match checkMap s.owner n f.payload with
    | .error refusal => (s, mapRefused f refusal)
    | .ok (layout, channels) =>
      (s.mapService n layout channels, Answer.ok [byteOf (costOf layout (reserveOf channels))])

/-- An accepted Unmap of service `n` in IDLE (R31). -/
def State.unmapService (s : State) (n : ServiceIndex) : State :=
  (s.remapped n []).setService n (s.service n).unmapped

/-- Unmap for service `n` (R31). -/
def unmapAct (n : ServiceIndex) (f : ControlFrame) (s : State) : State × Answer :=
  let sv := s.service n
  if Lifecycle.running sv.lifecycle then (s, { status := .state, detail := [Lifecycle.code sv.lifecycle] })
  else if f.payload ≠ [] then (s, Answer.length f)
  else if sv.lifecycle = .vacant then (s, Answer.ok [])
  else (s.unmapService n, Answer.ok [])

/-- MAP (R24). -/
def mapRequest (s : State) : State :=
  serve 0x10 (onService mapAct) s

/-- UNMAP (R31). -/
def unmapRequest (s : State) : State :=
  serve 0x11 (onService unmapAct) s

def execMap (s : State) : Host.Outcome State Fault Refusal :=
  .next (mapRequest s)

def execUnmap (s : State) : Host.Outcome State Fault Refusal :=
  .next (unmapRequest s)

end Sys2Proof.Machine
end

