-- ==== Sys2Proof/Machine/StoreReset.lean ====
section
/-! DEFINITION. The configuration store (11.1, 11.2): the image with its check word, STORE,
STORE_COMPLETE. Resets and start-up (11.3 to 11.5): RESET, RESET_REQUEST_ACTS, POWER_ON, RESET_PIN_ASSERT, RESET_PIN_RELEASE,
LOSS_OF_POWER, with the image load (R184), autostart (R55, R56) and READY (R189). -/

namespace Sys2Proof.Machine

/-! ### The image and its check word (R184) -/

/-- One service's part of the image as bytes: its map, or a mark that it has none, and its profile (R184; the layout is log
9). -/
def StoredService.bytes (sv : StoredService) : List Byte :=
  (match sv.map with
    | some payload => byteOf payload.length :: payload
    | none => [0xFF]) ++ sv.profile

/-- The bytes of the image that the check word covers (R184, log 9). -/
def Image.bytes (i : Image) : List Byte :=
  beBytes 2 i.limitA ++ beBytes 2 i.limitB ++ i.mask :: i.services.toList.flatMap StoredService.bytes

/-- The check word of an image: the CRC-16 over it (R184). -/
def Image.checkWord (i : Image) : BitVec 16 :=
  crc16 (Image.bytes i)

/-- An image written whole, with its check word (R186). -/
def Flash.sealed (i : Image) : Flash :=
  .written i i.checkWord

/-- An image that a Store has left partly or wrongly written: its check word fails (R186, log 28). -/
def Flash.spoilt (i : Image) : Flash :=
  .written i (~~~i.checkWord)

/-- What the test of the check word makes of the flash (R184). -/
def Flash.status : Flash → StoreStatus
  | .blank => .blank
  | .written items check => if items.checkWord = check then .valid else .invalid

/-- The items of an image whose check word is correct (R184). -/
def Flash.items? (f : Flash) : Option Image :=
  match f with
  | .blank => none
  | .written items _ => if f.status = .valid then some items else none

/-! ### Store (R185, R186) -/

/-- One service's part of the snapshot: its map, if it has one, and its profile in force (R184). -/
def Service.stored (sv : Service) : StoredService where
  map := sv.layout.map fun layout => mapPayload layout sv.map
  profile := Profile.payload sv.profile

/-- The snapshot of every item of the image (R184, R185). -/
def State.snapshot (s : State) : Image where
  limitA := s.portA.errorLimit
  limitB := s.portB.errorLimit
  mask := s.notices.mask
  services := Vector.ofFn fun n => Service.stored (s.service n)

/-- The refusal of a Store, by its checks in order (R185). -/
def storeRefusal (f : ControlFrame) (s : State) : Option Answer :=
  if f.unit ≠ deviceUnit then some (Answer.plain .unit)
  else if f.payload ≠ [] then some (Answer.length f)
  else if s.pins.protect = .high then some (Answer.plain .protectedField)
  else if s.control.storeJob.isSome then some (Answer.plain .busy)
  else none

/-- A Store is taken: the snapshot is formed and the Store-in-flight flag set; no reply is appended (R185). -/
def State.storeTaken (s : State) (f : ControlFrame) : State :=
  { s with control := { s.control with storeJob := some { image := s.snapshot, tag := f.tag, unit := f.unit } } }

/-- STORE (R185), with the PROTECT level when it is served. -/
def storeRequest (protect : PinLevel) (s : State) : State :=
  match s.servable (· == 0x30) with
  | none => s
  | some f =>
    let s1 := s.dequeued.sampleProtect protect
    match storeRefusal f s1 with
    | some answer => (s1.appendReply (replyTo f answer.status answer.detail) .ordinary).kick
    | none => s1.storeTaken f

/-- STORE_COMPLETE (R186): the snapshot stands in the flash with its check word when the read-back matches it (`good`, log 28),
and the check word is tested. -/
def storeComplete (good : Bool) (s : State) : State :=
  match s.control.storeJob with
  | some job =>
    if s.operating then
      let flash := if good then Flash.sealed job.image else Flash.spoilt job.image
      let status := flash.status
      let request : ControlFrame := { kind := 0x30, tag := job.tag, unit := job.unit, payload := [] }
      let s1 :=
        { s with
          flash := flash
          storeStatus := status
          control := { s.control with storeJob := none } }
      (s1.appendReply (replyTo request (if status = .valid then .ok else .fault) [StoreStatus.code status]) .store).kick
    else s
  | none => s

/-- A Store broken off by the RESET pin or a loss of power leaves an image whose check word fails (R186). -/
def State.storeEnded (s : State) : State :=
  { s with
    flash :=
      match s.control.storeJob with
      | some job => Flash.spoilt job.image
      | none => s.flash
    control := { s.control with storeJob := none } }

/-! ### The load (R34, R184) -/

/-- A stored error limit, or 48 for one that is out of range (R184). -/
def loadedLimit (stored : Nat) : Nat :=
  if stored = 0 ∨ 4800 < stored then Config.defaultErrorLimit else stored

/-- A stored profile, or the factory profile for one with a field out of range (R184). -/
def loadedProfile (payload : List Byte) : Profile :=
  match profileOfPayload payload with
  | .ok p => p
  | .error _ => Profile.factory

/-- The stored map of service `n` is applied when it passes the checks of a Map but for the state check, and discarded
otherwise (R34). -/
def State.applyStored (i : Image) (s : State) (n : ServiceIndex) : State :=
  match (i.services.get n).map with
  | none => s
  | some payload =>
    match checkMap s.owner n payload with
    | .error _ => s
    | .ok (layout, channels) => s.mapService n layout channels

/-- The configuration after a load (R34, R105, R184): from an image, its limits, mask, profiles and maps in index order; with
none, the factory defaults. -/
def State.loadedFrom (s : State) : Option Image → State
  | some i =>
    let base :=
      { s with
        portA := Receiver.afterReset (loadedLimit i.limitA)
        portB := Receiver.afterReset (loadedLimit i.limitB)
        tableA := Vector.replicate 32 none
        tableB := Vector.replicate 32 none
        tableOut := Vector.replicate 32 none
        services := Vector.ofFn fun n => Service.loaded (loadedProfile (i.services.get n).profile)
        notices := { entries := [], mask := i.mask } }
    allServices.foldl (State.applyStored i) base
  | none =>
    { s with
      portA := Receiver.afterReset Config.defaultErrorLimit
      portB := Receiver.afterReset Config.defaultErrorLimit
      tableA := Vector.replicate 32 none
      tableB := Vector.replicate 32 none
      tableOut := Vector.replicate 32 none
      services := Vector.replicate 16 (Service.loaded Profile.factory)
      notices := { entries := [], mask := 0xFF } }

/-- A load sets the store status and the configuration (R184). -/
def State.reloaded (s : State) : State :=
  { s.loadedFrom s.flash.items? with storeStatus := s.flash.status }

/-- A Reset request with KEEP keeps the configuration and clears the rest (R16, R34, R105, R183, R188). -/
def State.keptOver (s : State) : State :=
  { s with
    portA := Receiver.afterReset s.portA.errorLimit
    portB := Receiver.afterReset s.portB.errorLimit
    services := Vector.ofFn fun n => (s.service n).afterReset
    notices := { s.notices with entries := [] } }

/-! ### The end of every reset (R55, R56, R175, R189) -/

/-- The control port after a reset (R175). -/
def ControlPort.afterReset : ControlPort where
  receiver := .hunt
  inbox := []
  replies := []
  sending := .idle
  storeJob := none
  resetPhase := .none

/-- Autostart of service `n`, against the total committed so far (R55, R56). -/
def State.autostart (s : State) (n : ServiceIndex) : State :=
  let sv := s.service n
  if sv.lifecycle = .idle ∧ sv.profile.autostart then
    if s.committed + sv.cost ≤ Config.capacity then
      { s.setService n (sv.started false) with committed := s.committed + sv.cost }.raise (.service n)
        (.state .priming none .autostart 0 0)
    else s.raise (.service n) (.state .idle none .capacity sv.cost s.unitsFree)
  else s

/-- The timebase, control port and budget after any reset, then autostart in index order and READY (R4, R55, R175, R187,
R188, R189). The idle transmitter then begins its first frame (R170). -/
def State.resetEnded (s : State) (cause : ResetCause) : State :=
  let cleared :=
    { s with frame := 0, subblock := 0, committed := 0, control := ControlPort.afterReset, resetCause := cause }
  let started := allServices.foldl State.autostart cleared
  (started.raise .device (.ready cause started.storeStatus)).kick

/-- The rate of the rate pins (R162). -/
def rateOf : PinLevel → PinLevel → Rate
  | .low, .low => .bps57600
  | .low, .high => .bps115200
  | .high, .low => .bps230400
  | .high, .high => .bps460800

/-- The clock source chosen when reset ends: REFERENCE if an edge arrived within the last 3 frame periods (R3). -/
def chosenSource (edgeAge : Option Rat) : ClockSource :=
  match edgeAge with
  | some t => if t ≤ 3 then .reference else .internal
  | none => .internal

/-- The clock unit after a start-up (R3): the first output frame waits for its boundary as R1 has it. -/
def Clock.chosen (source : ClockSource) : Clock where
  source := source
  missing := 0
  returns := 0
  start := source.frameStart

/-- The start-up sequence of power-on and of the RESET pin (R187). -/
def State.startUp (s : State) (cause : ResetCause) (rate1 rate0 : PinLevel) (edgeAge : Option Rat) : State :=
  { s.reloaded with
    pins := { s.pins with rate1 := rate1, rate0 := rate0 }
    rate := rateOf rate1 rate0
    clock := Clock.chosen (chosenSource edgeAge)
    output := { counter := 0, line := .steady } }.resetEnded cause

/-! ### The commands -/

/-- The reset option of a payload byte (R188). -/
def resetOptionOf (b : Byte) : Option ResetOption :=
  if b = 0 then some .keep else if b = 1 then some .reload else none

/-- RESET (R188): an accepted Reset is answered OK, and serving stops at it until its reply has been sent (R167). -/
def resetRequest (s : State) : State :=
  match s.servable (· == 0x31) with
  | none => s
  | some f =>
    let s1 := s.dequeued
    let refuse (a : Answer) : State := (s1.appendReply (replyTo f a.status a.detail) .ordinary).kick
    if f.unit ≠ deviceUnit then refuse (Answer.plain .unit)
    else
      match f.payload with
      | [b] =>
        match resetOptionOf b with
        | none => refuse { status := .range, detail := [b] }
        | some option =>
          if s.control.storeJob.isSome then refuse (Answer.plain .busy)
          else
            ({ s1 with control := { s1.control with resetPhase := .waiting option } }.appendReply (replyTo f .ok [])
              .reset).kick
      | _ => refuse (Answer.length f)

/-- RESET_REQUEST_ACTS (R188): the Reset's reply has been sent, and the reset is due. DESIGN CHOICE: R188 leaves open what an event
between the two does; output frames, subblock ends, link frames, clock events and control bytes still act by their rules, and only
serving and the transmitter wait (log 17, log 33). -/
def resetRequestActs (s : State) : State :=
  match s.control.resetPhase with
  | .due option =>
    if s.operating then
      (match option with
        | .keep => s.keptOver
        | .reload => s.reloaded).resetEnded .request
    else s
  | .none | .waiting _ => s

/-- POWER_ON (R187): the supply becomes good. While RESET is asserted the start-up waits for its release (log 14). -/
def powerOn (rate1 rate0 : PinLevel) (edgeAge : Option Rat) (s : State) : State :=
  if s.pins.supplyGood then s
  else
    let powered := { s with pins := { s.pins with supplyGood := true } }
    if s.pins.resetAsserted then powered else powered.startUp .power rate1 rate0 edgeAge

/-- The part falls silent (R162, R175, R183, R186, R187): links and control port carry nothing, the receivers ignore their
links, a Store in flight ends, no notice waits. What else the part holds is set by the start-up (log 15). -/
def State.silenced (s : State) : State :=
  { s.storeEnded with
    portA := Receiver.afterReset s.portA.errorLimit
    portB := Receiver.afterReset s.portB.errorLimit
    output := { s.output with line := .steady }
    control := ControlPort.afterReset
    notices := { s.notices with entries := [] } }

/-- RESET_PIN_ASSERT (R187). -/
def resetPinAssert (s : State) : State :=
  { s.silenced with pins := { s.pins with resetAsserted := true } }

/-- RESET_PIN_RELEASE (R187): with the supply good, the start-up sequence runs with reset cause PIN. -/
def resetPinRelease (rate1 rate0 : PinLevel) (edgeAge : Option Rat) (s : State) : State :=
  if s.pins.resetAsserted then
    let released := { s with pins := { s.pins with resetAsserted := false } }
    if s.pins.supplyGood then released.startUp .pin rate1 rate0 edgeAge else released
  else s

/-- LOSS_OF_POWER (R186, R187). -/
def lossOfPower (s : State) : State :=
  { s.silenced with pins := { s.pins with supplyGood := false } }

def execStore (protect : PinLevel) (s : State) : Host.Outcome State Fault Refusal :=
  .next (storeRequest protect s)

def execStoreComplete (good : Bool) (s : State) : Host.Outcome State Fault Refusal :=
  .next (storeComplete good s)

def execReset (s : State) : Host.Outcome State Fault Refusal :=
  .next (resetRequest s)

def execResetRequestActs (s : State) : Host.Outcome State Fault Refusal :=
  .next (resetRequestActs s)

def execPowerOn (rate1 rate0 : PinLevel) (edgeAge : Option Rat) (s : State) : Host.Outcome State Fault Refusal :=
  .next (powerOn rate1 rate0 edgeAge s)

def execResetPinAssert (s : State) : Host.Outcome State Fault Refusal :=
  .next (resetPinAssert s)

def execResetPinRelease (rate1 rate0 : PinLevel) (edgeAge : Option Rat) (s : State) :
    Host.Outcome State Fault Refusal :=
  .next (resetPinRelease rate1 rate0 edgeAge s)

def execLossOfPower (s : State) : Host.Outcome State Fault Refusal :=
  .next (lossOfPower s)

end Sys2Proof.Machine
end

