-- ==== Sys2Proof/Machine/Links.lean ====
section
/-! DEFINITION. The port receivers and their elastic stores (1.4 to 1.6): SEARCH_FRAME_POSITION, PORT_LOCK,
LINK_FRAME_ARRIVAL, PORT_LOSS_OF_SYNC, and within other steps the store read (R13, R14) and the assessment (R10). -/

namespace Sys2Proof.Machine

/-- The PORT raise of a change of sync state or of the centred flag (R15). -/
def Receiver.notice (r : Receiver) : Detail :=
  .port r.sync r.centred

/-- The store emptied and the centred flag cleared (R13). -/
def Receiver.emptied (r : Receiver) : Receiver :=
  { r with store := [], centred := false, lastEntered := none }

/-! ### Search and lock (R6) -/

/-- One position examined in SEARCH: a sync word counts, anything else sends the hunt on (R6). -/
def Receiver.searched (r : Receiver) (sync : Option (BitVec 16)) : Receiver :=
  { r with qualifying := if sync = some syncWord then r.qualifying + 1 else 0 }

/-- The change to LOCKED (R6, R13): the store emptied, the runs and the error count in progress cleared. -/
def Receiver.locked (r : Receiver) (counter : BitVec 8) : Receiver :=
  { r.emptied with
    sync := .locked
    erroredRun := 0
    cleanRun := 0
    badRun := 0
    errorsNow := 0
    expected := some counter }

/-! ### Arriving frames (R8, R12) -/

/-- The classes of an arriving frame (R8). -/
inductive Arrival where
  | badSync
  | checkError
  | discontinuity
  | good
  deriving DecidableEq, Repr

/-- The class of a frame position that does not end the sync (R8); without decodable signal it is a bad sync word (R7). -/
def classify (expected : Option (BitVec 8)) : Option LinkFrame → Arrival
  | none => .badSync
  | some f =>
    if f.sync ≠ syncWord then .badSync
    else if !LinkBody.intact f.body then .checkError
    else if expected = some f.body.counter then .good
    else .discontinuity

/-- The expectation after an arriving frame, modulo 256 (R8). -/
def nextExpected (expected : Option (BitVec 8)) (counter : BitVec 8) : Arrival → Option (BitVec 8)
  | .badSync | .checkError => expected.map (· + 1)
  | .discontinuity | .good => some (counter + 1)

/-- The store entry an arriving frame makes: HELD with the last entered samples, or VALID with its own (R8). -/
def Receiver.entryFor (r : Receiver) (slots : Slots) : Arrival → StoreFrame
  | .badSync | .checkError => { slots := r.lastEntered.getD Slots.silence, mark := .held, error := true }
  | .discontinuity => { slots, mark := .valid, error := true }
  | .good => { slots, mark := .valid, error := false }

/-- An entry is appended below fill 64, and otherwise discarded with a slip (R12). The arrival that brings the fill to 32
sets the centred flag (R13). -/
def Receiver.entered (r : Receiver) (e : StoreFrame) : Receiver :=
  if r.store.length < Config.storeDepth then
    { r with
      store := r.store ++ [e]
      lastEntered := some e.slots
      centred := r.centred || decide (r.store.length + 1 = Config.centreFill) }
  else { r with slips := satInc Config.max16 r.slips }

/-- One arriving frame of a class: the expectation moves and the frame enters the store (R8, R12). -/
def Receiver.arrived (r : Receiver) (counter : BitVec 8) (slots : Slots) (c : Arrival) : Receiver :=
  { r.entered (r.entryFor slots c) with expected := nextExpected r.expected counter c }

/-- A frame position in LOCKED or UNRELIABLE (R7, R8): the bad-sync run moves; a run that reaches 4 ends the sync and yields
no frame. -/
def Receiver.framePosition (r : Receiver) (line : Option LinkFrame) : Receiver :=
  match line, classify r.expected line with
  | some f, .badSync =>
    let r1 := { r with badRun := r.badRun + 1 }
    if r1.badRun < 4 then r1.arrived f.body.counter f.body.slots .badSync else r1
  | some f, c => { r with badRun := 0 }.arrived f.body.counter f.body.slots c
  | none, _ =>
    let r1 := { r with badRun := r.badRun + 1 }
    if r1.badRun < 4 then r1.arrived 0 Slots.silence .badSync else r1

/-- The change to SEARCH (R7, R13). The last completed subblock's count and the expectation are left; the hunt begins with a
qualifying count of 0 (log 12). -/
def Receiver.lost (r : Receiver) : Receiver :=
  { r.emptied with
    sync := .search
    erroredRun := 0
    cleanRun := 0
    badRun := 0
    errorsNow := 0
    qualifying := 0 }

/-! ### Reading and assessment, within OUTPUT_FRAME and SUBBLOCK_END -/

/-- The mark under which an entry is read (R13). -/
def FrameMark.read : FrameMark → ReadMark
  | .valid => .valid
  | .held => .held

/-- The frame that the next read of a store returns: ABSENT zeros while it is not centred (R13), a HELD repeat of the last
frame read when it is empty (R14), else the oldest entry under its own mark. -/
def Receiver.nextRead (r : Receiver) : ReadFrame :=
  if !r.centred then { slots := Slots.silence, mark := .absent }
  else
    match r.store with
    | [] => { slots := r.lastRead.getD Slots.silence, mark := .held }
    | e :: _ => { slots := e.slots, mark := e.mark.read }

/-- What a read leaves of a store: nothing moves while it is not centred (R13), a repeat slips (R14), else the oldest entry
goes and its error flag is counted (R10). -/
def Receiver.afterRead (r : Receiver) : Receiver :=
  if !r.centred then r
  else
    match r.store with
    | [] => { r with slips := satInc Config.max16 r.slips }
    | e :: rest =>
      { r with
        store := rest
        lastRead := some e.slots
        errorsNow := if e.error then r.errorsNow + 1 else r.errorsNow }

/-- One read of the store at an output frame (R13, R14): the frame read stands in the receiver with its mark (R21). -/
def Receiver.read (r : Receiver) : Receiver × ReadFrame :=
  ({ r.afterRead with frameRead := some r.nextRead }, r.nextRead)

/-- The assessment of a port's subblock (R10), and whether it changes the sync state. -/
def Receiver.assessed (r : Receiver) : Receiver × Bool :=
  let r1 := { r with errorsLast := r.errorsNow, errorsNow := 0 }
  let errored := decide (r.errorLimit ≤ r.errorsNow)
  match r.sync with
  | .search => ({ r1 with errorsLast := 0 }, false)
  | .locked =>
    if errored then
      let run := satInc Config.max16 r.erroredRun
      if run = 3 then ({ r1 with erroredRun := run, cleanRun := 0, sync := .unreliable }, true)
      else ({ r1 with erroredRun := run, cleanRun := 0 }, false)
    else ({ r1 with erroredRun := 0, cleanRun := satInc Config.max16 r.cleanRun }, false)
  | .unreliable =>
    if errored then ({ r1 with erroredRun := satInc Config.max16 r.erroredRun, cleanRun := 0 }, false)
    else
      let run := satInc Config.max16 r.cleanRun
      if run = 10 then ({ r1 with erroredRun := 0, cleanRun := run, sync := .locked }, true)
      else ({ r1 with erroredRun := 0, cleanRun := run }, false)

/-! ### The commands -/

/-- A receiver takes its new state, with a PORT raise when the sync state or the centred flag was set to change (R15). -/
def State.portChanged (s : State) (p : Port) (r : Receiver) (raised : Bool) : State :=
  let s1 := s.setReceiver p r
  if raised then s1.raise (.port p) r.notice else s1

/-- SEARCH_FRAME_POSITION (R6): in SEARCH, with the lock not yet due. -/
def searchFramePosition (p : Port) (sync : Option (BitVec 16)) (s : State) : State :=
  let r := s.receiver p
  if s.operating && r.sync == .search && decide (r.qualifying < 8) then s.portChanged p (r.searched sync) false else s

/-- PORT_LOCK (R6): the qualifying count has reached 8. The eighth frame is handled by R8 without discontinuity test
(log 20). -/
def portLock (p : Port) (body : LinkBody) (s : State) : State :=
  let r := s.receiver p
  if s.operating && r.sync == .search && r.qualifying == 8 then
    let locked := r.locked body.counter
    let first := locked.arrived body.counter body.slots (if LinkBody.intact body then .good else .checkError)
    (s.portChanged p first true).kick
  else s

/-- LINK_FRAME_ARRIVAL (R7, R8): a frame position in LOCKED or UNRELIABLE, with the loss of sync not yet due. -/
def linkFrameArrival (p : Port) (line : Option LinkFrame) (s : State) : State :=
  let r := s.receiver p
  if s.operating && r.sync != .search && decide (r.badRun < 4) then
    let after := r.framePosition line
    (s.portChanged p after (after.centred && !r.centred)).kick
  else s

/-- PORT_LOSS_OF_SYNC (R7): the bad-sync run has reached 4. -/
def portLossOfSync (p : Port) (s : State) : State :=
  let r := s.receiver p
  if s.operating && r.sync != .search && r.badRun == 4 then (s.portChanged p r.lost true).kick else s

def execSearchFramePosition (p : Port) (sync : Option (BitVec 16)) (s : State) : Host.Outcome State Fault Refusal :=
  .next (searchFramePosition p sync s)

def execPortLock (p : Port) (body : LinkBody) (s : State) : Host.Outcome State Fault Refusal :=
  .next (portLock p body s)

def execLinkFrameArrival (p : Port) (line : Option LinkFrame) (s : State) : Host.Outcome State Fault Refusal :=
  .next (linkFrameArrival p line s)

def execPortLossOfSync (p : Port) (s : State) : Host.Outcome State Fault Refusal :=
  .next (portLossOfSync p s)

end Sys2Proof.Machine
end

