-- ==== Sys2Proof/WellFormed.lean ====
section
/-! DEFINITION. Which operands a command can bring: what no link, clock or subblock end of the part could give is
ill-formed. `exec` is total and gives every command a meaning; these checks say what the sender may send. -/

namespace Sys2Proof

/-- The eighteen origins whose raises one subblock end takes (R4, R178). -/
def CloseItem.all : List CloseItem :=
  [.port .a, .port .b] ++ allServices.map .service

/-- An order of closes names each port and each service exactly once (R178). -/
def CloseItem.isOrder (order : List CloseItem) : Bool :=
  order.length == CloseItem.all.length && CloseItem.all.all (fun i => order.contains i)

/-- A time since an event is not negative. -/
def timeOk : Option Rat → Bool
  | none => true
  | some t => decide (0 ≤ t)

/-- The check of a command's operands. -/
def Instr.wellFormed : Instr → Bool
  | .refclkEdge _ sinceEdge => timeOk sinceEdge
  | .subblockEnd order => CloseItem.isOrder order
  | .powerOn _ _ edgeAge => timeOk edgeAge
  | .resetPinRelease _ _ edgeAge => timeOk edgeAge
  | .outputFrame | .missingEdge | .clockToInternal | .clockToReference | .searchFramePosition _ _
  | .portLock _ _ | .linkFrameArrival _ _ | .portLossOfSync _ | .controlFrameComplete | .lengthFault
  | .frameTimeout | .unknownKind | .identify | .query _ | .peek | .map | .unmap | .profile _ | .start
  | .halt | .bypass | .mark | .select | .ports | .notify | .store _ | .storeComplete _ | .reset
  | .resetRequestActs | .transmitFrameEnd | .resetPinAssert | .controlByteReceived _ _ | .lossOfPower => true

end Sys2Proof
end

