-- ==== Sys2Proof/Machine/Timebase.lean ====
section
/-! DEFINITION. The reference clock unit (1.1), the output frame (R4, R17, R18, R21) and the subblock end (R4): MISSING_EDGE,
CLOCK_TO_INTERNAL, REFCLK_EDGE, CLOCK_TO_REFERENCE, OUTPUT_FRAME, SUBBLOCK_END. -/

namespace Sys2Proof.Machine

/-! ### Reference clock (R1, R2) -/

/-- The window in which an edge begins a frame: at most a quarter of a frame period before the oscillator's boundary and not
after it (R1). -/
def inWindow (beforeBoundary : Rat) : Bool :=
  decide (0 ≤ beforeBoundary) && decide (beforeBoundary ≤ 1 / 4)

/-- An edge that follows the previous edge by no more than 1.5 frame periods (R2). -/
def followsClosely : Option Rat → Bool
  | some t => decide (t ≤ 3 / 2)
  | none => false

/-- An output frame has begun: the next one waits for its own boundary (R1). -/
def Clock.frameBegun (c : Clock) : Clock :=
  { c with start := c.source.frameStart }

/-- MISSING_EDGE (R1): under REFERENCE the oscillator supplies the boundary of the frame that waits for an edge in its window,
and the count goes up; at 3 the change of source is due. -/
def missingEdge (s : State) : State :=
  if s.operating && s.clock.source == .reference && s.clock.start == .window && decide (s.clock.missing < 3) then
    { s with clock := { s.clock with missing := s.clock.missing + 1, start := .given } }
  else s

/-- CLOCK_TO_INTERNAL (R1): from then on every boundary is the oscillator's; the boundary of the third missing edge, whose frame
may still be due, is one already. -/
def clockToInternal (s : State) : State :=
  if s.operating && s.clock.source == .reference && s.clock.missing == 3 then
    ({ s with clock := { s.clock with source := .internal, returns := 0, start := .given } }.raise .device
      (.clock .internal)).kick
  else s

/-- Whether an edge under REFERENCE begins the next frame: in R1's window; or, after a return to REFERENCE, at or after the
oscillator's boundary that ends the frame in progress (R2, log 27). No second edge begins a frame that is due (log 2). -/
def Clock.edgeBegins (c : Clock) (beforeBoundary : Rat) : Bool :=
  match c.start with
  | .window => inWindow beforeBoundary && decide (c.missing < 3)
  | .firstEdge => decide (beforeBoundary ≤ 0)
  | .given => false

/-- The effect of an edge on the clock unit (R1, R2), no change of source being due. -/
def Clock.edge (c : Clock) (beforeBoundary : Rat) (sinceEdge : Option Rat) : Clock :=
  match c.source with
  | .reference => if c.edgeBegins beforeBoundary then { c with missing := 0, start := .given } else c
  | .internal =>
    if c.returns < 4800 then { c with returns := if followsClosely sinceEdge then c.returns + 1 else 0 } else c

/-- REFCLK_EDGE (R1, R2). -/
def refclkEdge (beforeBoundary : Rat) (sinceEdge : Option Rat) (s : State) : State :=
  if s.operating then { s with clock := s.clock.edge beforeBoundary sinceEdge } else s

/-- CLOCK_TO_REFERENCE (R2): the next frame waits for the first edge after the boundary that ends the frame in progress. -/
def clockToReference (s : State) : State :=
  if s.operating && s.clock.source == .internal && s.clock.returns == 4800 then
    ({ s with clock := { s.clock with source := .reference, missing := 0, start := .firstEdge } }.raise .device
      (.clock .reference)).kick
  else s

/-! ### The output frame -/

/-- Every service at one output frame, with the frames just read (R21, R49). -/
def State.servicesAtFrame (s : State) (slotsA slotsB : Slots) : Vector (Service × List Int) 16 :=
  Vector.ofFn fun n => (s.service n).atFrame s.frame slotsA slotsB

/-- What an output slot carries: the sample of its owner's output stage when the owner runs, and zero otherwise (R17). -/
def slotSample (owner : Option Owner) (ran : Vector (Service × List Int) 16) : Sample :=
  match owner with
  | some o =>
    if Lifecycle.running (ran.get o.service).1.lifecycle then
      BitVec.ofInt 24 ((ran.get o.service).2.getD o.channel.val 0)
    else 0
  | none => 0

/-- The 32 slots of the output frame (R17). -/
def State.outputSlots (s : State) (ran : Vector (Service × List Int) 16) : Slots :=
  Vector.ofFn fun i => slotSample (s.tableOut.get i) ran

/-- OUTPUT_FRAME (R17): one frame read from each store, the fast path of every running service, one frame sent. Its boundary
has come (R1, R2), and the subblock has a frame left (R4, log 2). -/
def outputFrame (s : State) : State :=
  if s.operating && s.clock.start == .given && decide (s.frame < Config.framesPerSubblock) then
    let a := s.portA.read
    let b := s.portB.read
    let ran := s.servicesAtFrame a.2.slots b.2.slots
    { s with
      clock := s.clock.frameBegun
      portA := a.1
      portB := b.1
      services := Vector.ofFn fun n => (ran.get n).1
      output :=
        { counter := s.output.counter + 1
          line := .carrying (buildLinkFrame s.output.counter (s.outputSlots ran)) }
      frame := s.frame + 1 }
  else s

/-! ### The subblock end -/

/-- An order of closes with repetitions dropped and what it leaves out added at its end; a well-formed order is itself
(R178, log 7). -/
def completeOrder (order : List CloseItem) : List CloseItem :=
  (order ++ CloseItem.all).foldl (fun acc i => if acc.contains i then acc else acc ++ [i]) []

/-- The close of service `n`, when it is in a running state: its record, its raises in kind order, the budget it releases
(R42, R46, R178). -/
def State.closeService (s : State) (n : ServiceIndex) : State :=
  let sv := s.service n
  if Lifecycle.running sv.lifecycle then
    let c := sv.close s.portA.usable s.portB.usable s.subblock
    let s1 := s.setService n c.service
    { s1 with committed := s.committed - c.released }.raiseAll (.service n) c.notices
  else s

/-- One item of a subblock end: the raise of a port whose assessment changed its sync state, or a close (R15, R178). -/
def State.closeItem (changed : Port → Bool) (s : State) : CloseItem → State
  | .port p => if changed p then s.raise (.port p) (s.receiver p).notice else s
  | .service n => s.closeService n

/-- SUBBLOCK_END (R4): the ports are assessed (R10), then the raises and closes are taken in the order given, then the
counter increases and frame 0 of the next subblock is due. -/
def subblockEnd (order : List CloseItem) (s : State) : State :=
  if s.operating && s.frame == Config.framesPerSubblock then
    let a := s.portA.assessed
    let b := s.portB.assessed
    let changed : Port → Bool := fun p => match p with | .a => a.2 | .b => b.2
    let closed := (completeOrder order).foldl (State.closeItem changed) { s with portA := a.1, portB := b.1 }
    { closed with frame := 0, subblock := s.subblock + 1 }.kick
  else s

def execMissingEdge (s : State) : Host.Outcome State Fault Refusal :=
  .next (missingEdge s)

def execClockToInternal (s : State) : Host.Outcome State Fault Refusal :=
  .next (clockToInternal s)

def execRefclkEdge (beforeBoundary : Rat) (sinceEdge : Option Rat) (s : State) : Host.Outcome State Fault Refusal :=
  .next (refclkEdge beforeBoundary sinceEdge s)

def execClockToReference (s : State) : Host.Outcome State Fault Refusal :=
  .next (clockToReference s)

def execOutputFrame (s : State) : Host.Outcome State Fault Refusal :=
  .next (outputFrame s)

def execSubblockEnd (order : List CloseItem) (s : State) : Host.Outcome State Fault Refusal :=
  .next (subblockEnd order s)

end Sys2Proof.Machine
end

