-- ==== Sys2Proof/Machine/Dispatch.lean ====
section
/-! DEFINITION. The effect of each command on everything but the queue: one arm per row of spec/opcode_table.json. -/

namespace Sys2Proof.Machine

def exec (i : Instr) (s : State) : Host.Outcome State Fault Refusal :=
  match i with
  | .outputFrame => Sys2Proof.Machine.execOutputFrame s
  | .missingEdge => Sys2Proof.Machine.execMissingEdge s
  | .clockToInternal => Sys2Proof.Machine.execClockToInternal s
  | .refclkEdge beforeBoundary sinceEdge => Sys2Proof.Machine.execRefclkEdge beforeBoundary sinceEdge s
  | .clockToReference => Sys2Proof.Machine.execClockToReference s
  | .searchFramePosition p sync => Sys2Proof.Machine.execSearchFramePosition p sync s
  | .portLock p body => Sys2Proof.Machine.execPortLock p body s
  | .linkFrameArrival p line => Sys2Proof.Machine.execLinkFrameArrival p line s
  | .portLossOfSync p => Sys2Proof.Machine.execPortLossOfSync p s
  | .subblockEnd order => Sys2Proof.Machine.execSubblockEnd order s
  | .controlFrameComplete => Sys2Proof.Machine.execControlFrameComplete s
  | .lengthFault => Sys2Proof.Machine.execLengthFault s
  | .frameTimeout => Sys2Proof.Machine.execFrameTimeout s
  | .unknownKind => Sys2Proof.Machine.execUnknownKind s
  | .identify => Sys2Proof.Machine.execIdentify s
  | .query protect => Sys2Proof.Machine.execQuery protect s
  | .peek => Sys2Proof.Machine.execPeek s
  | .map => Sys2Proof.Machine.execMap s
  | .unmap => Sys2Proof.Machine.execUnmap s
  | .profile protect => Sys2Proof.Machine.execProfile protect s
  | .start => Sys2Proof.Machine.execStart s
  | .halt => Sys2Proof.Machine.execHalt s
  | .bypass => Sys2Proof.Machine.execBypass s
  | .mark => Sys2Proof.Machine.execMark s
  | .select => Sys2Proof.Machine.execSelect s
  | .ports => Sys2Proof.Machine.execPorts s
  | .notify => Sys2Proof.Machine.execNotify s
  | .store protect => Sys2Proof.Machine.execStore protect s
  | .storeComplete good => Sys2Proof.Machine.execStoreComplete good s
  | .reset => Sys2Proof.Machine.execReset s
  | .resetRequestActs => Sys2Proof.Machine.execResetRequestActs s
  | .transmitFrameEnd => Sys2Proof.Machine.execTransmitFrameEnd s
  | .powerOn rate1 rate0 edgeAge => Sys2Proof.Machine.execPowerOn rate1 rate0 edgeAge s
  | .resetPinAssert => Sys2Proof.Machine.execResetPinAssert s
  | .resetPinRelease rate1 rate0 edgeAge => Sys2Proof.Machine.execResetPinRelease rate1 rate0 edgeAge s
  | .controlByteReceived value stop => Sys2Proof.Machine.execControlByteReceived value stop s
  | .lossOfPower => Sys2Proof.Machine.execLossOfPower s

end Sys2Proof.Machine
end

