-- ==== Sys2Proof/Safety.lean ====
section
/-! DEFINITION. The laws of the part that the book states by that name, as predicates on a state, and the shape of a served
request. A safe run is one whose states keep these laws. -/

namespace Sys2Proof.Machine

/-! ### Serving -/

/-- The oldest request `f` has a KIND and can be served now; `rest` waits behind it (R167). -/
def Serving (s : State) (kind : Byte) (f : ControlFrame) (rest : List ControlFrame) : Prop :=
  s.operating = true ∧ s.control.resetPhase = .none ∧ replyCount s.control.replies ≤ 6 ∧
    s.control.inbox = f :: rest ∧ f.kind = kind

/-- What an idle transmitter sends when the reply queue is not empty: its oldest frame (R170). -/
def sendingAfter (sending : Sending) (replies : List Reply) : Sending :=
  match sending, replies with
  | .idle, r :: _ => .reply r.frame
  | busy, _ => busy

/-- `s` with the served request taken from the inbox and its reply appended, the transmitter beginning its oldest reply if it
was idle (R167, R169, R170). -/
def State.answered (s : State) (rest : List ControlFrame) (frame : ControlFrame) (mark : ReplyMark) : State :=
  { s with
    control :=
      { s.control with
        inbox := rest
        replies := s.control.replies ++ [{ frame, mark }]
        sending := sendingAfter s.control.sending (s.control.replies ++ [{ frame, mark }]) } }

/-- After a raise the set has an entry of the origin that carries the detail, unless its kind is masked (R177). -/
def Raised (mask : Byte) (after : Notices) (o : Origin) (d : Detail) : Prop :=
  mask.getLsbD (NoticeKind.code d.kind) = true → ∃ e ∈ after.entries, e.origin = o ∧ e.detail = d

/-- The part after the controller has sent some bytes, each with its stop bit high (R162). -/
def State.afterBytes (s : State) (bytes : List Byte) : State :=
  bytes.foldl (fun acc b => controlByteReceived b .high acc) s

/-! ### Chapter 1: receivers and timebase -/

/-- The counts of the clock unit lie in their ranges; under INTERNAL no frame waits for an edge (R1), and while the first edge
after a return to REFERENCE is waited for, none is missing (R2). -/
def Clock.Lawful (c : Clock) : Prop :=
  c.missing ≤ 3 ∧ c.returns ≤ 4800 ∧ (c.source = .internal → c.start = .given) ∧ (c.start = .firstEdge → c.missing = 0)

/-- A receiver's items lie in their ranges, in SEARCH its store is empty and not centred (1.4, R9, R13), and an ABSENT frame read
from it is zeros (R13). -/
def Receiver.Lawful (r : Receiver) (frame : Nat) : Prop :=
  r.store.length ≤ Config.storeDepth ∧ r.badRun ≤ 4 ∧ r.qualifying ≤ 8 ∧ r.errorsNow ≤ frame ∧ r.errorsLast ≤ 4800 ∧
    r.erroredRun ≤ Config.max16 ∧ r.cleanRun ≤ Config.max16 ∧ r.slips ≤ Config.max16 ∧
    1 ≤ r.errorLimit ∧ r.errorLimit ≤ 4800 ∧ (r.sync = .search → r.store = [] ∧ r.centred = false) ∧
    ∀ f, r.frameRead = some f → f.mark = .absent → f.slots = Vector.replicate 32 0

/-- Both receivers, the frame count of the subblock and the clock unit are lawful (R1, R2, R4). -/
def State.TimebaseLaw (s : State) : Prop :=
  s.frame ≤ Config.framesPerSubblock ∧ s.clock.Lawful ∧ s.portA.Lawful s.frame ∧ s.portB.Lawful s.frame

/-- Port `p` takes the receiver `r` with a frame offered to its store: it enters below fill 64 and is discarded with a slip
otherwise (R12), and the arrival that brings the fill to 32 sets the centred flag with a PORT notice (R13, R15). -/
def State.offered (s : State) (p : Port) (r : Receiver) (e : StoreFrame) : State :=
  if 64 ≤ r.store.length then s.setReceiver p { r with slips := min (r.slips + 1) 65535 }
  else if r.store.length = 31 ∧ r.centred = false then
    (s.setReceiver p { r with store := r.store ++ [e], lastEntered := some e.slots, centred := true }).raise (.port p)
      (.port r.sync true)
  else s.setReceiver p { r with store := r.store ++ [e], lastEntered := some e.slots }

/-! ### Chapter 2: slot ownership -/

/-- The slot that a channel map names in a table (R23). -/
def ChannelMap.slotIn (ch : ChannelMap) : TableId → Option SlotIndex
  | .portA => some ch.main
  | .portB => ch.reserve
  | .output => some ch.output

/-- Channel `c` of service `n` names a slot of a table in its map. -/
def State.Names (s : State) (t : TableId) (n : ServiceIndex) (c : Nat) (slot : SlotIndex) : Prop :=
  ∃ ch, (s.service n).map[c]? = some ch ∧ ch.slotIn t = some slot

/-- The law of the part for slot ownership (R20): a slot is owned by a channel exactly when that channel's map names it, a
service has a map exactly when it is not VACANT, and then one with a channel for each of its layout and a reserve for all or
none. -/
def State.SlotLaw (s : State) : Prop :=
  (∀ t slot o, s.owner t slot = some o ↔ s.Names t o.service o.channel.val slot) ∧
    ∀ n, ((s.service n).lifecycle = .vacant ↔ (s.service n).layout = none) ∧
      (s.service n).map.length = (s.service n).channels ∧
      ∀ ch ∈ (s.service n).map, ch.reserve.isSome = (s.service n).reserveMapped

/-- A map of service `n` against the owners of the slots: one channel for each of its layout, a reserve for all or for none,
no slot twice in one table, and no slot of another service (R25 to R27). -/
def MapFits (owner : TableId → SlotIndex → Option Owner) (n : ServiceIndex) (layout : Layout)
    (channels : List ChannelMap) : Prop :=
  channels.length = layout.channels ∧
    (∀ a ∈ channels, ∀ b ∈ channels, a.reserve.isSome = b.reserve.isSome) ∧
    (∀ (t : TableId) (slot : SlotIndex) (i j : Nat) (a b : ChannelMap), channels[i]? = some a → channels[j]? = some b →
      a.slotIn t = some slot → b.slotIn t = some slot → i = j) ∧
    ∀ (t : TableId) (slot : SlotIndex) (a : ChannelMap) (o : Owner), a ∈ channels → a.slotIn t = some slot →
      owner t slot = some o → o.service = n

/-! ### Chapter 3: engine budget and lifecycle -/

/-- The units that service `n` holds: its cost in a running state (R33, R53). -/
def State.held (s : State) (n : ServiceIndex) : Nat :=
  if (s.service n).lifecycle.running then (s.service n).cost else 0

/-- The law of the part for the engine budget (R53): the committed total is the sum of the running services' costs and at
most 96. -/
def State.BudgetLaw (s : State) : Prop :=
  s.committed = ∑ n : ServiceIndex, s.held n ∧ s.committed ≤ Config.capacity

/-- The close phase, resume state, pending profile and ring agree with the lifecycle state (R35, R65, R93). -/
def Service.LifecycleLaw (sv : Service) : Prop :=
  (sv.resume.isSome ↔ sv.lifecycle = .dropped) ∧ (sv.haltPhase.isSome ↔ sv.lifecycle = .halting) ∧
    (sv.pendingProfile.isSome → sv.lifecycle.running = true) ∧ (sv.entryMarker = true → sv.lifecycle.running = true) ∧
    sv.meas.ring.length ≤ Config.ringSize ∧
    (sv.lifecycle = .active ∨ sv.resume = some .active → sv.meas.ring.length = Config.ringSize)

/-! ### Chapter 5: the gating histogram -/

/-- The law of the part for the gating histogram (R77). -/
def Integration.HistogramLaw (i : Integration) : Prop :=
  (∀ n ∈ i.bins.toList, n ≤ Config.max32) ∧ i.total ≤ Config.max32 ∧
    (i.total < Config.max32 → i.total = i.bins.toList.sum)

/-- `loudness` is conv of the mean centre power of the bins of a histogram whose centre is at `gate` or higher (R68, R78, R79),
formed from exact centre powers, which are `10^(b/100)` times that of bin 0 (log 10). -/
def IsGatedLoudness (counts : Vector Nat 800) (gate loudness : Int) : Prop :=
  ∃ k : Int,
    |(k : ℝ) - (-6995 + 1000 * Real.logb 10
        ((∑ b : Fin 800, if gate ≤ -6995 + 10 * (b.val : Int) then (counts.get b : ℝ) * (10 : ℝ) ^ ((b.val : ℝ) / 100) else 0) /
          (∑ b : Fin 800, if gate ≤ -6995 + 10 * (b.val : Int) then (counts.get b : ℝ) else 0)))| ≤ 1 / 2 ∧
      loudness = max (-12000) (min 1000 k)

/-- At some precision the conversions of both bounds of a mean agree, so that it is decided (log 11). -/
def MeanDecided (occ : List (Nat × Nat)) : Prop :=
  ∃ prec ∈ precisions, convRelative (meanBound 0 prec occ) = convRelative (meanBound 1 prec occ)

/-! ### Chapter 6: control profile and loudness gain -/

/-- Every field lies in its range, and the initial gain within the profile's own limits (R93, R96). -/
def Profile.Valid (p : Profile) : Prop :=
  -3100 ≤ p.target ∧ p.target ≤ -1000 ∧ 0 ≤ p.agility ∧ p.agility ≤ 100 ∧ 1 ≤ p.riseStep ∧ p.riseStep ≤ 200 ∧
    1 ≤ p.fallStep ∧ p.fallStep ≤ 600 ∧ 500 ≤ p.freezeDepth ∧ p.freezeDepth ≤ 4000 ∧
    -2400 ≤ p.gainFloor ∧ p.gainFloor ≤ 0 ∧ 0 ≤ p.gainCeiling ∧ p.gainCeiling ≤ 1800 ∧
    p.gainFloor ≤ p.initialGain ∧ p.initialGain ≤ p.gainCeiling ∧ -1200 ≤ p.peakCeiling ∧ p.peakCeiling ≤ 0 ∧
    1 ≤ p.release ∧ p.release ≤ 65536 ∧ -9000 ≤ p.silenceThreshold ∧ p.silenceThreshold ≤ -3000 ∧
    10 ≤ p.silenceTime ∧ p.silenceTime ≤ 600 ∧ 10 ≤ p.returnHold ∧ p.returnHold ≤ 3000 ∧
    50 ≤ p.tolerance ∧ p.tolerance ≤ 1000 ∧ 100 ≤ p.heavyLimit ∧ p.heavyLimit ≤ 1200

/-- The law of the part for the loudness gain (R104): the profiles are valid, G lies within the limits of the profile in
force, and between closes the ramp end is lin(G). -/
def Service.GainLaw (sv : Service) : Prop :=
  sv.profile.Valid ∧ (∀ p, sv.pendingProfile = some p → p.Valid) ∧
    sv.profile.gainFloor ≤ sv.gain.g ∧ sv.gain.g ≤ sv.profile.gainCeiling ∧ sv.gain.rampEnd = lin sv.gain.g

/-! ### Chapter 8: feeds -/

/-- The law of the part for the feed in use (R146), with the monitors that a map brings (R140). -/
def Service.FeedLaw (sv : Service) : Prop :=
  (sv.lifecycle = .vacant → sv.reserveMapped = false) ∧
    (sv.feeds.inUse = .reserve → sv.reserveMapped = true) ∧
    (sv.feeds.mode = .forceReserve → sv.reserveMapped = true) ∧
    (sv.feeds.reserveMonitor.isSome = sv.reserveMapped) ∧
    (sv.feeds.mainMonitor.isSome ↔ sv.lifecycle ≠ .vacant)

/-! ### Chapter 11: the configuration store -/

/-- The factory defaults (R184, R34): no map, the factory profile, limits of 48, every notice kind enabled. -/
def State.FactoryDefaults (t : State) : Prop :=
  t.notices.mask = 0xFF ∧ (∀ p, (t.receiver p).errorLimit = 48) ∧ (∀ table slot, t.owner table slot = none) ∧
    ∀ n, (t.service n).lifecycle = .vacant ∧ (t.service n).profile = Profile.factory

/-- What the load of a stored map leaves of service `n` (R34): with none, or with one that fails the checks of a Map against the
maps of the services before it, the service is VACANT without a map; otherwise it is IDLE with that map and the cost of R32. -/
def State.MapLoaded (t : State) (n : ServiceIndex) (stored : Option (List Byte)) : Prop :=
  let before := fun (table : TableId) (slot : SlotIndex) => (t.owner table slot).filter fun o => decide (o.service < n)
  match stored.map (checkMap before n) with
  | some (.ok (layout, channels)) =>
    (t.service n).lifecycle = .idle ∧ (t.service n).layout = some layout ∧ (t.service n).map = channels ∧
      (t.service n).cost = (if ∀ ch ∈ channels, ch.reserve.isSome = true then 4 else 3) * layout.channels
  | some (.error _) | none =>
    (t.service n).lifecycle = .vacant ∧ (t.service n).layout = none ∧ (t.service n).map = [] ∧ (t.service n).cost = 0

/-- The configuration that a load leaves, before autostart (R34, R93, R184): a blank flash or an image whose check word fails gives
the factory defaults; an image whose check word is correct gives its mask, its limits or 48 for one out of range, its profiles
or the factory profile for one with a field out of range, and its maps. -/
def State.LoadedFrom (t : State) : Flash → Prop
  | .blank => t.storeStatus = .blank ∧ t.FactoryDefaults
  | .written i check =>
    if crc16 i.bytes = check then
      t.storeStatus = .valid ∧ t.notices.mask = i.mask ∧
        (∀ p, (t.receiver p).errorLimit =
          let stored := match p with | .a => i.limitA | .b => i.limitB
          if 1 ≤ stored ∧ stored ≤ 4800 then stored else 48) ∧
        ∀ n,
          (t.service n).profile =
              (match profileOfPayload (i.services.get n).profile with
                | .ok p => p
                | .error _ => Profile.factory) ∧
            t.MapLoaded n (i.services.get n).map
    else t.storeStatus = .invalid ∧ t.FactoryDefaults

/-- What every reset leaves of a service beside its map and profile, before autostart (R35, R74, R92, R105, R139, R161, R187). -/
def Service.UnitsCleared (sv : Service) : Prop :=
  sv.resume = none ∧ sv.entryMarker = false ∧ sv.haltPhase = none ∧ sv.pendingProfile = none ∧
    sv.meas =
      { filters := List.replicate sv.channels Filter.cleared, accums := List.replicate sv.channels 0
        ring := [], lastAppend := none, momentary := none, shortTerm := none } ∧
    sv.integ =
      { bins := Vector.replicate 800 0, total := 0, integrated := none, deviation := false, sinceMark := 0 } ∧
    sv.gain =
      { g := sv.profile.initialGain, rampStart := lin sv.profile.initialGain, rampEnd := lin sv.profile.initialGain
        regain := false } ∧
    sv.lim =
      { queue := [], lastGain := 1048576, subMin := 1048576, lastSubMin := 1048576, clips := 0, lastClips := 0
        totalClips := 0, fade := .silent, pendingFade := none } ∧
    sv.feeds.mode = .auto ∧ sv.feeds.inUse = .main ∧ sv.feeds.crossfade = none ∧
    (sv.lifecycle = .vacant → sv.feeds.mainMonitor = none ∧ sv.feeds.reserveMonitor = none) ∧
    (sv.lifecycle ≠ .vacant →
      sv.feeds.mainMonitor = some { monitor := { level := -12000, silentRun := 0, accum := 0 }, goodRun := 0 } ∧
        sv.feeds.reserveMonitor =
          if sv.reserveMapped then some { level := -12000, silentRun := 0, accum := 0 } else none)

/-- The end of a reset (R55, R187, R189): autostart in index order from a state whose committed total is 0, then READY, and the
idle transmitter begins its first frame (log 16). -/
def State.autostarted (cleared : State) (cause : ResetCause) : State :=
  (((List.finRange 16).foldl State.autostart cleared).raise .device (.ready cause cleared.storeStatus)).kick

/-! ### Chapters 9 and 10: control port and notice set -/

/-- The bounds of inbox and reply queue (R164, R166, R169). -/
def ControlPort.Lawful (c : ControlPort) : Prop :=
  c.inbox.length ≤ Config.inboxSize ∧ replyCount c.replies ≤ 8 ∧ (c.receiver ≠ .hunt → replyCount c.replies ≤ 7)

/-- The pair of origin and kind that an entry stands for (R176). -/
def NoticeEntry.pair (e : NoticeEntry) : Origin × NoticeKind :=
  (e.origin, e.detail.kind)

/-- The law of the part for the notice set (R177): at most one entry for each pair of origin and kind. -/
def Notices.Lawful (ns : Notices) : Prop :=
  (ns.entries.map NoticeEntry.pair).Nodup

/-! ### Chapter 7: the peak limiter -/

/-- An entry whose peak is formed bounds its samples, and its required gain is that of R124 under the ceiling amplitude `c`;
one in OUTPUT is limited within it (R118, R124, R126, R127). -/
def Segment.Lawful (seg : Segment) (c : Int) : Prop :=
  (∀ pk, seg.peak = some pk →
      seg.required = some (requiredGain c pk) ∧ (∀ lane ∈ seg.lanes, ∀ u ∈ lane, u.natAbs ≤ pk) ∧
      ∀ out, seg.output = some out →
        0 ≤ out.rampStart ∧ out.rampStart ≤ requiredGain c pk ∧ 0 ≤ out.gain ∧ out.gain ≤ requiredGain c pk) ∧
    (seg.peak = none → seg.output = none)

/-- Sample `j` of channel `c` about a segment: 0 and 1 are the last two of the segment before, 0 where the queue holds none,
2 to 17 its own 16, and 18 the first of the segment after (R120 to R122). -/
def sampleAbout (before : Option Segment) (seg after : Segment) (c j : Nat) : Int :=
  if j < 2 then
    match before with
    | some b => (b.lanes.getD c []).getD (14 + j) 0
    | none => 0
  else if j < 18 then (seg.lanes.getD c []).getD (j - 2) 0
  else (after.lanes.getD c []).getD 0 0

/-- The look-ahead queue of a service with some channels at position `pos` of a segment, its next frame's position (R118,
R119): at most 8 entries and 7 between segments, every entry but the newest with its peak formed, at most the oldest in
OUTPUT and none between segments, and the newest holding what the segment in progress has brought. -/
def Limiter.Lawful (l : Limiter) (c : Int) (pos channels : Nat) : Prop :=
  0 ≤ l.lastGain ∧ (∀ seg ∈ l.queue, seg.Lawful c) ∧ (∀ seg ∈ l.queue.dropLast, seg.peak.isSome = true) ∧
    (∀ seg ∈ l.queue.tail, seg.output = none) ∧ (pos = 0 → ∀ seg ∈ l.queue, seg.output = none) ∧
    l.queue.length ≤ (if pos = 0 then 7 else 8) ∧
    (l.queue.length = 8 → ∀ oldest, l.queue.head? = some oldest → oldest.output.isSome = true) ∧
    ∀ newest, l.queue.getLast? = some newest →
      newest.peak = none ∧ newest.lanes.length = channels ∧
        ∀ lane ∈ newest.lanes, lane.length = if pos = 0 then Config.framesPerSegment else pos

/-- A fade in progress is at one of its 480 positions (R131). -/
def FadeState.Lawful (fade : FadeState) : Prop :=
  ∀ k, fade = .fadeIn k ∨ fade = .fadeOut k → k < Config.fadeFrames

/-- The limiter of a running service is lawful under the ceiling in force, and empty in the entry subblock (R118, R120, R127);
a fade in progress is within its 480 frames (R131), a service that is not VACANT has channels, and profiles are valid. -/
def Service.LimiterLaw (sv : Service) (frame : Nat) : Prop :=
  (sv.lifecycle ≠ .vacant → sv.map ≠ []) ∧ sv.profile.Valid ∧ (∀ p, sv.pendingProfile = some p → p.Valid) ∧
    sv.lim.fade.Lawful ∧
    (sv.lifecycle.running = true →
      if sv.entryMarker then sv.lim.queue = [] ∧ 0 ≤ sv.lim.lastGain
      else
        sv.lim.Lawful (ceilingAmplitude sv.profile.peakCeiling) (frame % Config.framesPerSegment) sv.map.length)

end Sys2Proof.Machine
end

