-- ==== Sys2Proof/Certificates/Slice0/Obligations.lean ====
section
/-! DEFINITION. What is claimed of the OSL-16, one proposition per rule or group of rules: the commands with their frames, the
closes, the exact arithmetic, the wire formats, and the laws that every command keeps. -/

open Sys2Proof Sys2Proof.Machine

/-! ### The queue -/

/-- The block takes the command at the front of its queue with the queue's rest; that it idles on an empty queue is the
model's choice (log 3). -/
def Obligations.StepRunsTheFrontCommand : Prop :=
  (∀ (c : Instr) (rest : List Instr) (s : State), s.pending = c :: rest → step s = exec c { s with pending := rest }) ∧
    ∀ s : State, s.pending = [] → step s = .next s

/-- No command stops the part, and none touches the queue (log 23). -/
def Obligations.EveryCommandGoesOn : Prop :=
  ∀ (c : Instr) (s : State), ∃ t, exec c s = .next t ∧ t.pending = s.pending

/-! ### Reference clock (R1, R2) -/

/-- The clock unit (R1, R2): under REFERENCE an edge in its window or a missing edge gives the next frame its boundary, without
which no frame begins; after a return to REFERENCE the first edge after the boundary of the frame in progress does; the counts
and the two changes of source. That the missing-edge count stays 3 under INTERNAL is log 22; that an edge at that boundary itself
begins the frame and that no edge is missing meanwhile, log 27; that no further edge acts while a frame is due, log 2. -/
def Obligations.ClockCommands : Prop :=
  ∀ s : State, s.operating = true →
    (s.clock.source = .reference → s.clock.start = .window → s.clock.missing < 3 →
      exec .missingEdge s =
          .next { s with clock := { s.clock with missing := s.clock.missing + 1, start := .given } } ∧
        ∀ (before : Rat) (since : Option Rat),
          exec (.refclkEdge before since) s =
            .next
              (if 0 ≤ before ∧ before ≤ 1 / 4 then { s with clock := { s.clock with missing := 0, start := .given } }
              else s)) ∧
    (s.clock.source = .reference → s.clock.start = .firstEdge →
      exec .missingEdge s = .next s ∧
        ∀ (before : Rat) (since : Option Rat),
          exec (.refclkEdge before since) s =
            .next (if before ≤ 0 then { s with clock := { s.clock with missing := 0, start := .given } } else s)) ∧
    (s.clock.source = .reference → s.clock.start = .given →
      exec .missingEdge s = .next s ∧
        ∀ (before : Rat) (since : Option Rat), exec (.refclkEdge before since) s = .next s) ∧
    (s.clock.start ≠ .given → exec .outputFrame s = .next s) ∧
    (s.clock.source = .internal → s.clock.returns < 4800 → ∀ before t : Rat,
      exec (.refclkEdge before (some t)) s =
        .next { s with clock := { s.clock with returns := if t ≤ 3 / 2 then s.clock.returns + 1 else 0 } }) ∧
    (s.clock.source = .reference → s.clock.missing = 3 →
      exec .clockToInternal s =
        .next ({ s with clock := { source := .internal, missing := 3, returns := 0, start := .given } }.raise .device
          (.clock .internal)).kick) ∧
    (s.clock.source = .internal → s.clock.returns = 4800 →
      exec .clockToReference s =
        .next ({ s with clock := { source := .reference, missing := 0, returns := 4800, start := .firstEdge } }.raise
          .device (.clock .reference)).kick)

/-! ### Port receivers (R6 to R13) -/

/-- The hunt in SEARCH and the lock at a qualifying count of 8, with the eighth frame as the first of the locked port (R6); the
fourth bad sync word of a run yields no frame, and the change to SEARCH that it brings (R7, R13). Where the eighth frame's check
fails it enters HELD with an error (log 20); the qualifying count of a new hunt is the model's (log 12). -/
def Obligations.SearchLockAndLoss : Prop :=
  (∀ (p : Port) (s : State), s.operating = true → (s.receiver p).sync = .search →
      ((s.receiver p).qualifying < 8 → ∀ bits : Option (BitVec 16),
        exec (.searchFramePosition p bits) s =
          .next (s.setReceiver p
            { s.receiver p with qualifying := if bits = some 0xB62E#16 then (s.receiver p).qualifying + 1 else 0 })) ∧
      ((s.receiver p).qualifying = 8 → ∀ body : LinkBody,
        exec (.portLock p body) s =
          .next (((s.setReceiver p
            { s.receiver p with
              sync := .locked
              expected := some (body.counter + 1)
              badRun := 0
              errorsNow := 0
              erroredRun := 0
              cleanRun := 0
              store :=
                [if LinkBody.intact body then { slots := body.slots, mark := .valid, error := false }
                  else { slots := Vector.replicate 32 0, mark := .held, error := true }]
              centred := false
              lastEntered := some (if LinkBody.intact body then body.slots else Vector.replicate 32 0) }).raise (.port p)
            (.port .locked false)).kick))) ∧
    ∀ (p : Port) (s : State), s.operating = true → (s.receiver p).sync ≠ .search →
      ((s.receiver p).badRun = 3 → ∀ line : Option LinkFrame, (∀ f, line = some f → f.sync ≠ 0xB62E) →
        exec (.linkFrameArrival p line) s = .next (s.setReceiver p { s.receiver p with badRun := 4 }).kick) ∧
      ((s.receiver p).badRun = 4 →
        exec (.portLossOfSync p) s =
          .next (((s.setReceiver p
            { s.receiver p with
              sync := .search
              store := []
              centred := false
              lastEntered := none
              erroredRun := 0
              cleanRun := 0
              badRun := 0
              errorsNow := 0
              qualifying := 0 }).raise (.port p) (.port .search false)).kick))

/-- One frame position in LOCKED or UNRELIABLE that does not end the sync: the four classes of R8, each offered to the store
by R12 and R13. -/
def Obligations.ArrivalTable : Prop :=
  ∀ (p : Port) (s : State) (r : Receiver), s.operating = true → s.receiver p = r → r.sync ≠ .search →
    (∀ f : LinkFrame, r.badRun < 4 → f.sync = 0xB62E → LinkBody.intact f.body = true →
      exec (.linkFrameArrival p (some f)) s =
        .next (s.offered p { r with badRun := 0, expected := some (f.body.counter + 1) }
          { slots := f.body.slots, mark := .valid, error := decide (r.expected ≠ some f.body.counter) }).kick) ∧
    (∀ f : LinkFrame, r.badRun < 4 → f.sync = 0xB62E → LinkBody.intact f.body = false →
      exec (.linkFrameArrival p (some f)) s =
        .next (s.offered p { r with badRun := 0, expected := r.expected.map (· + 1) }
          { slots := r.lastEntered.getD (Vector.replicate 32 0), mark := .held, error := true }).kick) ∧
    ∀ line : Option LinkFrame, r.badRun < 3 → (∀ f, line = some f → f.sync ≠ 0xB62E) →
      exec (.linkFrameArrival p line) s =
        .next (s.offered p { r with badRun := r.badRun + 1, expected := r.expected.map (· + 1) }
          { slots := r.lastEntered.getD (Vector.replicate 32 0), mark := .held, error := true }).kick

/-- The assessment of both ports at a subblock end, by the table of R10. -/
def Obligations.SubblockEndAssessesPorts : Prop :=
  ∀ (order : List CloseItem) (s : State), s.operating = true → s.frame = 4800 →
    ∃ t, exec (.subblockEnd order) s = .next t ∧ ∀ p : Port,
      t.receiver p =
        if (s.receiver p).sync = .search then { s.receiver p with errorsLast := 0, errorsNow := 0 }
        else if (s.receiver p).errorLimit ≤ (s.receiver p).errorsNow then
          { s.receiver p with
            errorsLast := (s.receiver p).errorsNow
            errorsNow := 0
            erroredRun := min ((s.receiver p).erroredRun + 1) 65535
            cleanRun := 0
            sync :=
              if (s.receiver p).sync = .locked ∧ (s.receiver p).erroredRun + 1 = 3 then .unreliable
              else (s.receiver p).sync }
        else
          { s.receiver p with
            errorsLast := (s.receiver p).errorsNow
            errorsNow := 0
            erroredRun := 0
            cleanRun := min ((s.receiver p).cleanRun + 1) 65535
            sync :=
              if (s.receiver p).sync = .unreliable ∧ (s.receiver p).cleanRun + 1 = 10 then .locked
              else (s.receiver p).sync }

/-! ### The output frame -/

/-- An output frame whose boundary has come (R1) reads one frame with its mark from each store, runs the fast path of every
service that runs one, and leaves all else; the next frame waits for its own boundary (R1, R10, R13, R14, R17, R21, R38). Under
INTERNAL the oscillator's boundary is the command itself (log 27); a subblock of 4800 frames needs its end first (log 2). -/
def Obligations.OutputFrameReadsAndRuns : Prop :=
  ∀ s : State, s.operating = true → s.clock.start = .given → s.frame < 4800 →
    ∃ t, exec .outputFrame s = .next t ∧
      t =
        { s with
          clock := { s.clock with start := if s.clock.source = .internal then .given else .window }
          portA := t.portA, portB := t.portB, services := t.services, output := t.output, frame := s.frame + 1 } ∧
      t.output.counter = s.output.counter + 1 ∧
      (∀ p : Port, ∃ read : ReadFrame,
        (s.receiver p).read.2 = read ∧
          if (s.receiver p).centred = false then
            t.receiver p = { s.receiver p with frameRead := some read } ∧
              read = { slots := Vector.replicate 32 0, mark := .absent }
          else
            match (s.receiver p).store with
            | [] =>
              t.receiver p =
                { s.receiver p with slips := min ((s.receiver p).slips + 1) 65535, frameRead := some read } ∧
                read = { slots := (s.receiver p).lastRead.getD (Vector.replicate 32 0), mark := .held }
            | e :: rest =>
              t.receiver p =
                { s.receiver p with
                  store := rest
                  lastRead := some e.slots
                  frameRead := some read
                  errorsNow := (s.receiver p).errorsNow + if e.error then 1 else 0 } ∧
                read = { slots := e.slots, mark := match e.mark with | .valid => .valid | .held => .held }) ∧
      ∀ n : ServiceIndex,
        t.service n =
          if (s.service n).lifecycle.running ∧ (s.service n).entryMarker = false then
            ((s.service n).fastPath s.frame s.portA.read.2.slots s.portB.read.2.slots).1
          else s.service n

/-- The frame on the output link: its format and check (R5), its counter, and the slots by the output table (R17). -/
def Obligations.OutputFrameSent : Prop :=
  ∀ s : State, s.operating = true → s.clock.start = .given → s.frame < 4800 →
    ∃ t f, exec .outputFrame s = .next t ∧ t.output.line = .carrying f ∧
      f.sync = 0xB62E ∧ f.body.counter = s.output.counter ∧ LinkBody.intact f.body = true ∧ (LinkFrame.bits f).length = 800 ∧
      ∀ slot : SlotIndex,
        f.body.slots.get slot =
          match s.owner .output slot with
          | some o =>
            if (s.service o.service).lifecycle.running ∧ (s.service o.service).entryMarker = false then
              BitVec.ofInt 24
                (((s.service o.service).fastPath s.frame s.portA.read.2.slots s.portB.read.2.slots).2.getD
                  o.channel.val 0)
            else 0
          | none => 0

/-- What one frame of the fast path leaves of the units. The raw samples of MAIN are those of the main slots of port A, of RESERVE
those of the reserve slots of port B (R21, R146; a channel without one reads 0, which is the model's choice, log 26); the selected
samples are those of the feed in use, blended with the old feed's while a crossfade is in progress (R152), and they are gained by
the ramp (R116). Filters and accumulators are fed with the gained samples (R60, R62), the limiter at its position in the segment
with the ceiling and release of the profile in force (R119), monitors with the raw samples (R140); then come the crossfade (R152),
the fade (R130, R131) and the clips of the limited samples (R132, R133). The profile, the ring, the histogram and the gain stay. -/
def Obligations.FastPathUnits : Prop :=
  ∀ (sv : Service) (i : Nat) (a b : Slots) (after : Service) (out : List Int), sv.fastPath i a b = (after, out) →
    let raw : Feed → List Int := fun feed =>
      sv.map.map fun ch =>
        match feed, ch.reserve with
        | .main, _ => (a.get ch.main).toInt
        | .reserve, some slot => (b.get slot).toInt
        | .reserve, none => 0
    ∃ (selected us limited : List Int) (lim : Limiter),
      selected =
        (match sv.feeds.crossfade with
          | none => raw sv.feeds.inUse
          | some cf =>
            List.zipWith
              (fun old new : Int => rheDiv (old * (480 - (cf.position + 1)) + new * (cf.position + 1)) 480)
              (raw cf.old) (raw sv.feeds.inUse)) ∧
      us = selected.map (fun x => rheDiv (x * rampGain sv.gain.rampStart sv.gain.rampEnd i) 1048576) ∧
      (if i = 0 then sv.lim.fadeTakenUp else sv.lim).limit (i % 16) sv.profile.peakCeiling sv.profile.release us =
        (lim, limited) ∧
      after =
        { sv with
          meas := { sv.meas with filters := after.meas.filters, accums := after.meas.accums }
          lim :=
            { lim with
              clips := after.lim.clips, totalClips := after.lim.totalClips, fade := after.lim.fade
              pendingFade := if i = 0 then none else sv.lim.pendingFade }
          feeds :=
            { sv.feeds with
              mainMonitor := after.feeds.mainMonitor, reserveMonitor := after.feeds.reserveMonitor
              crossfade := after.feeds.crossfade } } ∧
      after.meas.filters =
        List.zipWith (fun f (u : Int) => (Filter.step f (u / 8388608)).2) sv.meas.filters us ∧
      after.meas.accums =
        List.zipWith (fun a y => a + y * y) (if i = 0 then sv.meas.accums.map (fun _ => 0) else sv.meas.accums)
          (List.zipWith (fun f (u : Int) => (Filter.step f (u / 8388608)).1) sv.meas.filters us) ∧
      (∀ m, sv.feeds.mainMonitor = some m → ∃ m', after.feeds.mainMonitor = some m' ∧
        m' =
          { m with
            monitor :=
              { m.monitor with
                accum :=
                  (if i = 0 then 0 else m.monitor.accum)
                    + ((raw .main).map fun x : Int => (x / 8388608 : Rat) * (x / 8388608)).sum } }) ∧
      (∀ m, sv.feeds.reserveMonitor = some m → ∃ m', after.feeds.reserveMonitor = some m' ∧
        m' =
          { m with
            accum :=
              (if i = 0 then 0 else m.accum)
                + ((raw .reserve).map fun x : Int => (x / 8388608 : Rat) * (x / 8388608)).sum }) ∧
      after.feeds.crossfade =
        (match sv.feeds.crossfade with
          | some cf => if cf.position < 479 then some { cf with position := cf.position + 1 } else none
          | none => none) ∧
      ∃ fade : FadeState,
        fade =
          (if i = 0 then
            match sv.lim.pendingFade with
            | some .fadeIn => .fadeIn 0
            | some .fadeOut => if sv.lim.fade = .silent then .silent else .fadeOut 0
            | none => sv.lim.fade
          else sv.lim.fade) ∧
        after.lim.fade =
          (match fade with
            | .none => .none
            | .fadeIn k => if k < 479 then .fadeIn (k + 1) else .none
            | .fadeOut k => if k < 479 then .fadeOut (k + 1) else .silent
            | .silent => .silent) ∧
        out = (limited.map (faded fade)).map (fun v => max (-8388608) (min 8388607 v)) ∧
        after.lim.clips =
          sv.lim.clips + ((limited.map (faded fade)).filter fun v => decide (v < -8388608 ∨ 8388607 < v)).length ∧
        after.lim.totalClips =
          min (sv.lim.totalClips
            + ((limited.map (faded fade)).filter fun v => decide (v < -8388608 ∨ 8388607 < v)).length) 65535

/-! ### Exact arithmetic -/

/-- Every rounding is to the nearest integer and, half way, to the even one (00_scope.md, Rounding); so a gain ramp (R115), a
crossfade (R152) and a fade (R131) stay between their ends and reach them at the last frame, and a gained sample (R116) stays in
its range. -/
def Obligations.RoundingAndRamps : Prop :=
  (∀ (num : Int) (den : Nat), 0 < den →
    |2 * (num - rheDiv num den * den)| ≤ den ∧
      (|2 * (num - rheDiv num den * den)| = den → rheDiv num den % 2 = 0)) ∧
    (∀ (start stop : Int) (i : Nat), i < 4800 →
      min start stop ≤ rampGain start stop i ∧ rampGain start stop i ≤ max start stop ∧
        rampGain start stop 4799 = stop) ∧
    (∀ (old new : Int) (i : Nat), i < 480 →
      min old new ≤ blend i old new ∧ blend i old new ≤ max old new ∧ blend 479 old new = new) ∧
    (∀ (o : Int) (fade : FadeState),
      (∀ k, fade = .fadeIn k ∨ fade = .fadeOut k → k < 480) → (faded fade o).natAbs ≤ o.natAbs) ∧
    (∀ o : Int, faded (.fadeIn 479) o = o ∧ faded (.fadeOut 479) o = 0) ∧
    ∀ x g : Int, -8388608 ≤ x → x ≤ 8388607 → 0 ≤ g → g ≤ 8329135 → (gained g x).natAbs ≤ 66633080

/-- lin is 10^(G/2000) × 2^20 rounded to nearest and strictly increasing over the gains of R103; the ceiling amplitude is
10^(Cp/2000) × 2^23 rounded to nearest over the ceilings of R123. -/
def Obligations.LinearGainIsExact : Prop :=
  (∀ g : Int, -2400 ≤ g → g ≤ 1800 →
    |((lin g : Int) : ℝ) - (10 : ℝ) ^ ((g : ℝ) / 2000) * 2 ^ 20| ≤ 1 / 2) ∧
    (∀ g h : Int, -2400 ≤ g → g < h → h ≤ 1800 → lin g < lin h) ∧
    lin 0 = 1048576 ∧ lin (-2400) = 66161 ∧ lin 1800 = 8329135 ∧
    ∀ cp : Int, -1200 ≤ cp → cp ≤ 0 →
      |((ceilingAmplitude cp : Int) : ℝ) - (10 : ℝ) ^ ((cp : ℝ) / 2000) * 2 ^ 23| ≤ 1 / 2

/-- Loudness (R68), feed level (R141) and reduction (R134) are their logarithms rounded to nearest, clamped to their ranges. -/
def Obligations.LogarithmsAreExact : Prop :=
  conv 0 = -12000 ∧ feedLevel 0 = -12000 ∧
    (∀ p : Rat, 0 < p → ∃ k : Int,
      |(k : ℝ) - (1000 * Real.logb 10 (p : ℝ) - 69.1)| ≤ 1 / 2 ∧ conv p = max (-12000) (min 1000 k)) ∧
    (∀ m : Rat, 0 < m → ∃ k : Int,
      |(k : ℝ) - 1000 * Real.logb 10 (m : ℝ)| ≤ 1 / 2 ∧ feedLevel m = max (-12000) (min 0 k)) ∧
    ∀ h : Int, 1 ≤ h → h ≤ 1048576 →
      |((reductionOf h : Int) : ℝ) + 2000 * Real.logb 10 ((h : ℝ) / 2 ^ 20)| ≤ 1 / 2

/-- Where the conversions of both bounds agree at a precision, they are the conversion of the mean of the exact centre powers
of R78, which stand in the ratio 10^(b/100) to that of bin 0 (log 10). So, where every mean of a histogram's gated bins is decided
(log 11), its integrated loudness is conv of the exact mean over the bins at or above the relative gate, which is conv of the
exact mean over all bins less 1000 (R79); and a programme whose counted blocks all fall in one bin has that bin's centre as its
integrated loudness (R76, R78, R79). -/
def Obligations.IntegratedLoudnessIsExact : Prop :=
  (∀ (occ : List (Nat × Nat)) (prec : Nat), occ ≠ [] → (∀ e ∈ occ, e.1 < 800 ∧ 0 < e.2) →
      convRelative (meanBound 0 prec occ) = convRelative (meanBound 1 prec occ) →
      ∃ k : Int,
        |(k : ℝ) - (-6995 + 1000 * Real.logb 10
            ((occ.map fun e => (e.2 : ℝ) * (10 : ℝ) ^ ((e.1 : ℝ) / 100)).sum / ((countSum occ : Nat) : ℝ)))| ≤ 1 / 2 ∧
          convRelative (meanBound 0 prec occ) = max (-12000) (min 1000 k)) ∧
    (∀ counts : Vector Nat 800, (∃ b : Fin 800, counts.get b ≠ 0) →
      (∀ gate : Int,
        MeanDecided ((occupied 0 counts.toList).filter fun e => decide (gate ≤ -6995 + 10 * (e.1 : Int)))) →
      ∃ ungated : Int, IsGatedLoudness counts (-12000) ungated ∧
        IsGatedLoudness counts (ungated - 1000) (integratedLoudness counts.toList)) ∧
    ∀ (b : Fin 800) (n : Nat), 0 < n →
      integratedLoudness ((Vector.replicate 800 0).set b n).toList = -6995 + 10 * (b.val : Int)

/-! ### The peak limiter (R118 to R132) -/

/-- The required gain is the largest, up to unity, that brings a peak to the ceiling or below (R124), and what is limited by it
stays at the ceiling or below (R126 to R128). -/
def Obligations.LimitedSampleWithinCeiling : Prop :=
  (∀ (c : Int) (pk : Nat), 0 ≤ c →
    0 ≤ requiredGain c pk ∧ requiredGain c pk ≤ 1048576 ∧ requiredGain c pk * pk ≤ c * 1048576 ∧
      (requiredGain c pk < 1048576 → c * 1048576 < (requiredGain c pk + 1) * pk)) ∧
    (∀ out : SegmentOutput, limiterGain out 15 = out.gain) ∧
    ∀ (c u : Int) (pk i : Nat) (out : SegmentOutput), 0 ≤ c → u.natAbs ≤ pk → i < 16 →
      0 ≤ out.rampStart → out.rampStart ≤ requiredGain c pk → 0 ≤ out.gain → out.gain ≤ requiredGain c pk →
      0 ≤ limiterGain out i ∧ limiterGain out i ≤ requiredGain c pk ∧
        (rheDiv (u * limiterGain out i) 1048576).natAbs ≤ c.toNat

/-- The law of the part for output peaks (R132): in a part whose limiters are lawful and whose fades are within their 480 frames
(R131), every sample sent in a slot of a running service is at most the ceiling amplitude of its profile in force. -/
def Obligations.OutputPeaksWithinCeiling : Prop :=
  ∀ s : State, s.operating = true → s.clock.start = .given → s.frame < 4800 → (∀ n, (s.service n).LimiterLaw s.frame) →
    ∃ t f, exec .outputFrame s = .next t ∧ t.output.line = .carrying f ∧
      (∀ n, (t.service n).LimiterLaw t.frame) ∧
      ∀ (slot : SlotIndex) (o : Owner), s.owner .output slot = some o → (s.service o.service).lifecycle.running = true →
        (f.body.slots.get slot).toInt.natAbs ≤ (ceilingAmplitude (s.service o.service).profile.peakCeiling).toNat

/-- The limiter at every frame of a segment (R119, R128): the first frame appends an entry and forms the peak of the segment before
it, and with 8 entries the oldest begins output with the gains of R126; the frames after it add their samples to the newest entry;
a frame of a segment in OUTPUT gives its limited samples and the subblock minimum, and after the 16th its entry goes; with none in
OUTPUT every limited sample is 0. The peak is the largest magnitude, over all channels, of the 16 samples and of the three
intermediate points of the 16 intervals that end at them (R121, R122), with the last two samples of the segment before, 0 after a
clearing (R120), and the first of the segment after. -/
def Obligations.SegmentBoundary : Prop :=
  (∀ (before : Option Segment) (seg after : Segment) (pk : Nat),
    (∀ b, before = some b → ∀ lane ∈ b.lanes, lane.length = 16) → (∀ lane ∈ seg.lanes, lane.length = 16) →
    pk = segmentPeak before seg after →
    let points := fun c j : Nat =>
      let u := fun k : Nat => sampleAbout before seg after c (j + k)
      [ rheDiv (-9 * u 0 + 111 * u 1 + 29 * u 2 - 3 * u 3) 128, rheDiv (-8 * u 0 + 72 * u 1 + 72 * u 2 - 8 * u 3) 128,
        rheDiv (-3 * u 0 + 29 * u 1 + 111 * u 2 - 9 * u 3) 128 ]
    (∀ c j : Nat, c < seg.lanes.length → j < 16 → ∀ v ∈ sampleAbout before seg after c (j + 2) :: points c j, v.natAbs ≤ pk) ∧
      (pk = 0 ∨ ∃ c j : Nat, c < seg.lanes.length ∧ j < 16 ∧
        ∃ v ∈ sampleAbout before seg after c (j + 2) :: points c j, v.natAbs = pk)) ∧
  (∀ (l : Limiter) (cp release : Int) (us : List Int), l.queue = [] →
    l.limit 0 cp release us =
      ({ l with queue := [{ lanes := us.map fun u => [u], peak := none, required := none, output := none }] },
        us.map fun _ => 0)) ∧
  (∀ (l : Limiter) (cp release : Int) (us : List Int) (i : Nat) (entries : List Segment) (last oldest : Segment)
      (rest : List Segment),
    0 < i → i < 16 → l.queue = entries ++ [last] →
    entries ++ [{ last with lanes := List.zipWith (fun lane u => lane ++ [u]) last.lanes us }] = oldest :: rest →
    (oldest.output = none → l.limit i cp release us = ({ l with queue := oldest :: rest }, us.map fun _ => 0)) ∧
    ∀ out, oldest.output = some out →
      l.limit i cp release us =
        ({ l with
            queue := if i = 15 then rest else oldest :: rest
            subMin := min l.subMin (limiterGain out i) },
          oldest.lanes.map fun lane => rheDiv (lane.getD i 0 * limiterGain out i) 1048576)) ∧
  ∀ (l : Limiter) (cp release : Int) (us : List Int) (entries : List Segment) (last : Segment),
    l.queue = entries ++ [last] → last.stage = .complete →
    let pk := segmentPeak entries.getLast? last (Segment.begun us)
    let waiting : Segment := { last with peak := some pk, required := some (requiredGain (ceilingAmplitude cp) pk) }
    let queue := entries ++ [waiting, Segment.begun us]
    (queue.length ≠ 8 → (∀ seg ∈ queue.head?, seg.output = none) →
      l.limit 0 cp release us = ({ l with queue := queue }, us.map fun _ => 0)) ∧
    (∀ oldest rest, queue = oldest :: rest → queue.length = 8 → ∀ r, oldest.required = some r →
      ∃ h, h = ((rest.take 6).map fun seg => seg.required.getD 1048576).foldl min (min r (l.lastGain + release)) ∧
        l.limit 0 cp release us =
          ({ l with
              queue := { oldest with output := some { rampStart := min l.lastGain r, gain := h } } :: rest
              lastGain := h
              subMin := min l.subMin (limiterGain { rampStart := min l.lastGain r, gain := h } 0) },
            oldest.lanes.map fun lane =>
              rheDiv (lane.getD 0 0 * limiterGain { rampStart := min l.lastGain r, gain := h } 0) 1048576))

/-! ### The subblock end and the closes -/

/-- One subblock end (R4, R42, R47, R53, R158, R178): whatever the order of the raises and closes, every running service is
closed once, reading the ports as assessed, its budget is released, and every raise is in the set unless masked. The order is
the command's operand (log 7). -/
def Obligations.SubblockEndClosesEveryService : Prop :=
  ∀ (order : List CloseItem) (s : State), CloseItem.isOrder order = true → s.operating = true → s.frame = 4800 →
    ∃ t, exec (.subblockEnd order) s = .next t ∧
      t =
        { s with
          frame := 0, subblock := s.subblock + 1, portA := t.portA, portB := t.portB, services := t.services
          committed := t.committed, notices := { t.notices with mask := s.notices.mask }
          control := { s.control with sending := t.control.sending } } ∧
      (∀ n, t.service n =
        if (s.service n).lifecycle.running then
          ((s.service n).close t.portA.usable t.portB.usable s.subblock).service
        else s.service n) ∧
      t.committed =
        s.committed - ∑ n : ServiceIndex,
          (if (s.service n).lifecycle.running ∧ (t.service n).lifecycle = .idle then (s.service n).cost else 0) ∧
      (∀ n, (s.service n).lifecycle.running = true →
        ∀ d ∈ ((s.service n).close t.portA.usable t.portB.usable s.subblock).notices,
          Raised s.notices.mask t.notices (.service n) d) ∧
      ∀ p, (t.receiver p).sync ≠ (s.receiver p).sync →
        Raised s.notices.mask t.notices (.port p) (.port (t.receiver p).sync (t.receiver p).centred)

/-- The measurement stage (R62 to R65, R69 to R71): an appending close adds Q to the ring of at most 30 and forms M and S from
the ring after it; any other close keeps them. That the accumulators are emptied at the close is the model's reading (log
24). -/
def Obligations.RingAndReadings : Prop :=
  ∀ (sv : Service) (ua ub : Bool) (stamp : Word32) (after : Service), (sv.close ua ub stamp).service = after →
    ((sv.lifecycle = .priming ∨ sv.lifecycle = .active ∨ sv.lifecycle = .bypass) → sv.entryMarker = false →
      sv.meas.ring.length ≤ 30 →
      ∃ (q : Rat) (ring : List Rat),
        q = (List.zipWith (fun w a => w * (a / 4800)) ((sv.layout.map Layout.weights).getD []) sv.meas.accums).sum ∧
        ring = (sv.meas.ring ++ [q]).drop (sv.meas.ring.length + 1 - 30) ∧
        after.meas =
          { filters := sv.meas.filters
            accums := sv.meas.accums.map fun _ => 0
            ring := ring
            lastAppend := some stamp
            momentary :=
              if 4 ≤ ring.length then some (conv ((ring.drop (ring.length - 4)).sum / 4)) else none
            shortTerm := if 4 ≤ ring.length then some (conv (ring.sum / ring.length)) else none }) ∧
    ((sv.lifecycle = .dropped ∨ sv.lifecycle = .halting ∨ sv.entryMarker = true) →
      after.meas.ring = sv.meas.ring ∧ after.meas.lastAppend = sv.meas.lastAppend ∧
        after.meas.momentary = sv.meas.momentary ∧ after.meas.shortTerm = sv.meas.shortTerm ∧
        ∀ a ∈ after.meas.accums, a = 0)

/-- The integration stage (R75 to R77, R80 to R83, R85): the gating block of the new M is counted in its bin, I is formed
again, the deviation flag is tested with the profile in force, and the subblocks since mark advance; and the DEVIATION notice
of a close (R84). That the test is made in DROPPED, where R51 has the flag hold, is log 29. -/
def Obligations.IntegrationAndDeviation : Prop :=
  (∀ (sv : Service) (ua ub : Bool) (stamp : Word32) (after : Service), (sv.close ua ub stamp).service = after →
      let appends :=
        (sv.lifecycle = .priming ∨ sv.lifecycle = .active ∨ sv.lifecycle = .bypass) ∧ sv.entryMarker = false
      (∀ (m : Int) (b : Fin 800), appends → after.meas.momentary = some m → -7000 ≤ m → b.val = min ((m + 7000) / 10).toNat 799 →
        after.integ.bins = sv.integ.bins.set b (min (sv.integ.bins.get b + 1) 4294967295) ∧
          after.integ.total = min (sv.integ.total + 1) 4294967295 ∧
          (sv.integ.bins.get b < 4294967295 ∨ sv.integ.total < 4294967295 →
            after.integ.integrated = some (integratedLoudness after.integ.bins.toList))) ∧
      ((¬appends ∨ after.meas.momentary = none ∨ ∃ m, after.meas.momentary = some m ∧ m < -7000) →
        after.integ.bins = sv.integ.bins ∧ after.integ.total = sv.integ.total ∧
          after.integ.integrated = sv.integ.integrated) ∧
      (appends → after.integ.sinceMark = min (sv.integ.sinceMark + 1) 4294967295) ∧
      (¬appends → after.integ.sinceMark = sv.integ.sinceMark) ∧
      (∀ i, (appends ∨ sv.lifecycle = .dropped ∧ sv.entryMarker = false) → after.integ.integrated = some i →
        300 ≤ after.integ.total →
        (after.integ.deviation = true ↔
          if sv.integ.deviation then after.profile.tolerance - 50 < |i - after.profile.target|
          else after.profile.tolerance < |i - after.profile.target|)) ∧
      ((after.integ.total < 300 ∨ sv.lifecycle = .halting ∨ sv.entryMarker = true) →
        after.integ.deviation = sv.integ.deviation)) ∧
    ∀ (sv : Service) (ua ub : Bool) (stamp : Word32),
      let c := sv.close ua ub stamp
      c.notices.filter (fun d => d.kind == .deviation) =
        if sv.integ.deviation = false ∧ c.service.integ.deviation = true then
          [.deviation (c.service.integ.integrated.getD 0) c.service.profile.target]
        else []

/-- The REGAIN stage (R107). -/
def Obligations.RegainStep : Prop :=
  ∀ (sv : Service) (ua ub : Bool) (stamp : Word32),
    (sv.lifecycle = .priming ∨ sv.lifecycle = .active) → sv.entryMarker = false → sv.gain.regain = true →
    ∃ p : Profile, p = (sv.close ua ub stamp).service.profile ∧ p = sv.pendingProfile.getD sv.profile ∧
      (sv.close ua ub stamp).service.gain =
        { g := p.initialGain, rampStart := lin sv.gain.g, rampEnd := lin p.initialGain, regain := false }

/-- The gain action of every other close (R101, R108 to R113): a steered step of PRIMING or ACTIVE, the bypass gain, or none. -/
def Obligations.GainAtClose : Prop :=
  ∀ (sv : Service) (ua ub : Bool) (stamp : Word32) (after : Service) (p : Profile) (g : Int),
    sv.lifecycle.running = true → (sv.close ua ub stamp).service = after → p = sv.pendingProfile.getD sv.profile →
    g = (if sv.pendingProfile.isSome then max p.gainFloor (min p.gainCeiling sv.gain.g) else sv.gain.g) →
    p.Valid →
    after.profile = p ∧ after.pendingProfile = none ∧
      after.gain.rampStart = lin sv.gain.g ∧ after.gain.rampEnd = lin after.gain.g ∧
      (sv.lifecycle = .bypass → after.gain.g = 0 ∧ after.gain.regain = sv.gain.regain) ∧
      (sv.lifecycle = .dropped ∨ sv.lifecycle = .halting ∨ sv.entryMarker = true ∧ sv.lifecycle ≠ .bypass →
        after.gain.g = g ∧ after.gain.regain = sv.gain.regain) ∧
      ((sv.lifecycle = .priming ∨ sv.lifecycle = .active) → sv.entryMarker = false → sv.gain.regain = false →
        after.gain.regain = false ∧
          (after.meas.shortTerm = none ∨ (∃ m, after.meas.momentary = some m ∧ m < p.target - p.freezeDepth) →
            after.gain.g = g) ∧
          ∀ m s reference d : Int, after.meas.momentary = some m → after.meas.shortTerm = some s →
            p.target - p.freezeDepth ≤ m →
            (after.integ.total < 300 ∧ reference = s ∨
              300 ≤ after.integ.total ∧ ∃ i, after.integ.integrated = some i ∧
                reference = rheDiv (p.agility * s + (100 - p.agility) * i) 100) →
            d = max p.gainFloor (min p.gainCeiling (g + p.target - reference)) →
            after.gain.g =
              if d < g then g - min (g - d) p.fallStep
              else if sv.lifecycle = .priming then g
              else g + min (d - g) p.riseStep)

/-- The limiter's reporting stage with its LIMIT and CLIP raises, the kind order of the raises of one close (R134 to R136, R178),
and a new peak ceiling applied to the WAITING segments at the close that puts its profile in force (R125). -/
def Obligations.LimiterAtClose : Prop :=
  (∀ (sv : Service) (ua ub : Bool) (stamp : Word32),
      let c := sv.close ua ub stamp
      let reduction := reductionOf sv.lim.subMin
      c.service.lim.lastSubMin = sv.lim.subMin ∧ c.service.lim.lastClips = sv.lim.clips ∧
        c.service.lim.subMin = 1048576 ∧ c.service.lim.clips = 0 ∧ c.service.lim.totalClips = sv.lim.totalClips ∧
        c.notices.filter (fun d => d.kind == .limit) =
          (if c.service.profile.heavyLimit < reduction then [.limit reduction] else []) ∧
        c.notices.filter (fun d => d.kind == .clip) =
          (if 0 < sv.lim.clips then [.clip sv.lim.clips sv.lim.totalClips] else []) ∧
        c.notices.Pairwise fun a b => NoticeKind.code a.kind < NoticeKind.code b.kind) ∧
    ∀ (sv : Service) (ua ub : Bool) (stamp : Word32) (p : Profile), sv.pendingProfile = some p →
      (sv.lifecycle = .priming ∨ sv.lifecycle = .active ∨ sv.lifecycle = .bypass ∨ sv.lifecycle = .halting) →
      (∀ seg ∈ sv.lim.queue, seg.output = none) →
      (sv.close ua ub stamp).service.lim.queue =
        sv.lim.queue.map fun seg =>
          match seg.peak with
          | some pk => { seg with required := some (requiredGain (ceilingAmplitude p.peakCeiling) pk) }
          | none => seg

/-- Levels, silent runs and the main-good run at a close (R141 to R144): formed at the updating closes with the profile in force,
kept at the others, the accumulators emptied at all, which is the model's reading (log 24). -/
def Obligations.MonitorsAtClose : Prop :=
  ∀ (sv : Service) (ua ub : Bool) (stamp : Word32) (after : Service), (sv.close ua ub stamp).service = after →
    ((sv.lifecycle = .priming ∨ sv.lifecycle = .active ∨ sv.lifecycle = .bypass ∨ sv.lifecycle = .dropped) →
      sv.entryMarker = false →
      (∀ m, sv.feeds.reserveMonitor = some m → ∃ level, level = feedLevel (m.accum / (4800 * sv.channels)) ∧
        after.feeds.reserveMonitor =
          some
            { level := level
              silentRun :=
                if ub = true ∧ level < after.profile.silenceThreshold then min (m.silentRun + 1) 65535 else 0
              accum := 0 }) ∧
      ∀ m, sv.feeds.mainMonitor = some m → ∃ (level : Int) (run : Nat),
        level = feedLevel (m.monitor.accum / (4800 * sv.channels)) ∧
        run = (if ua = true ∧ level < after.profile.silenceThreshold then min (m.monitor.silentRun + 1) 65535 else 0) ∧
        after.feeds.mainMonitor =
          some
            { monitor := { level := level, silentRun := run, accum := 0 }
              goodRun :=
                if ua = true ∧ (run : Int) < after.profile.silenceTime then min (m.goodRun + 1) 65535 else 0 }) ∧
    (sv.lifecycle = .halting ∨ sv.entryMarker = true →
      after.feeds.reserveMonitor = sv.feeds.reserveMonitor.map (fun m => { m with accum := 0 }) ∧
        after.feeds.mainMonitor =
          sv.feeds.mainMonitor.map fun m => { m with monitor := { m.monitor with accum := 0 } })

/-- The decision of an AUTO close by the ranks of both feeds: rank switch, auto-return, no feed, stay (R148, R149, R151, R155). -/
def Obligations.AutoFeedDecision : Prop :=
  ∀ (sv : Service) (ua ub : Bool) (stamp : Word32) (after : Service) (main reserve mine others : Rank),
    (sv.lifecycle = .priming ∨ sv.lifecycle = .active ∨ sv.lifecycle = .bypass) → sv.entryMarker = false →
    sv.feeds.mode = .auto → (sv.close ua ub stamp).service = after →
    main = after.mainRank ua → reserve = after.reserveRank ub →
    (mine, others) = (if sv.feeds.inUse = .main then (main, reserve) else (reserve, main)) →
    let returns :=
      sv.feeds.inUse = .reserve ∧ after.profile.autoReturn = true ∧
        (∃ m, after.feeds.mainMonitor = some m ∧ after.profile.returnHold ≤ m.goodRun) ∧ reserve.code ≤ main.code
    let feedRaises := (sv.close ua ub stamp).notices.filter fun d => d.kind == .feed
    after.feeds.mode = .auto ∧
      (mine.code < others.code →
        after.feeds.inUse = sv.feeds.inUse.other ∧ after.lifecycle ≠ .dropped ∧
          after.feeds.crossfade = some { old := sv.feeds.inUse, position := 0 } ∧
          feedRaises = [.feed sv.feeds.inUse.other .rank]) ∧
      (others.code ≤ mine.code → returns →
        after.feeds.inUse = .main ∧ after.lifecycle ≠ .dropped ∧
          after.feeds.crossfade = some { old := .reserve, position := 0 } ∧ feedRaises = [.feed .main .autoReturn]) ∧
      (others.code ≤ mine.code → (¬returns ∧ 1 ≤ after.profile.returnHold) →
        after.feeds.inUse = sv.feeds.inUse ∧ after.feeds.crossfade = sv.feeds.crossfade ∧ feedRaises = [] ∧
          (after.lifecycle = .dropped ↔ mine = .unusable ∧ (others = .unusable ∨ others = .absent)))

/-- The decision of a close in a forced mode, and the exit check of a DROPPED service (R150, R151, R153 to R155). -/
def Obligations.ForcedModesAndExitCheck : Prop :=
  ∀ (sv : Service) (ua ub : Bool) (stamp : Word32) (after : Service) (main reserve : Rank), sv.entryMarker = false →
    (sv.close ua ub stamp).service = after → main = after.mainRank ua → reserve = after.reserveRank ub →
    let feedRaises := (sv.close ua ub stamp).notices.filter fun d => d.kind == .feed
    (∀ forced rank, (sv.lifecycle = .priming ∨ sv.lifecycle = .active ∨ sv.lifecycle = .bypass) →
      (sv.feeds.mode = .forceMain ∧ forced = Feed.main ∧ rank = main ∨
        sv.feeds.mode = .forceReserve ∧ forced = .reserve ∧ rank = reserve) →
      after.feeds.inUse = forced ∧
        feedRaises = (if forced = sv.feeds.inUse then [] else [.feed forced .forced]) ∧
        (rank = .good ∨ rank = .quiet →
          after.lifecycle ≠ .dropped ∧
            after.feeds.crossfade =
              if forced = sv.feeds.inUse then sv.feeds.crossfade
              else some { old := sv.feeds.inUse, position := 0 }) ∧
        (rank = .unusable → after.lifecycle = .dropped ∧ after.feeds.crossfade = sv.feeds.crossfade)) ∧
    ∀ (resume : Resume) (taken : Option Feed), sv.lifecycle = .dropped → sv.resume = some resume →
      taken =
        (match sv.feeds.mode with
          | .auto =>
            if main.usable ∧ (¬reserve.usable ∨ reserve.code ≤ main.code) then some .main
            else if reserve.usable then some .reserve
            else none
          | .forceMain => if main.usable then some .main else none
          | .forceReserve => if reserve.usable then some .reserve else none) →
      (∀ feed, taken = some feed →
        after.feeds.inUse = feed ∧ after.feeds.crossfade = none ∧ after.lifecycle = resume.lifecycle ∧
          feedRaises =
            if feed = sv.feeds.inUse then []
            else [.feed feed (if sv.feeds.mode = .auto then .rank else .forced)]) ∧
      (taken = none →
        after.feeds.inUse = sv.feeds.inUse ∧ after.lifecycle = .dropped ∧ after.resume = sv.resume ∧ feedRaises = [])

/-- The changes of lifecycle state at a close (R43 to R47, R52): priming complete, no feed, feed returned, the two closes of a
halt, each with its STATE notice. -/
def Obligations.LifecycleAtClose : Prop :=
  ∀ (sv : Service) (ua ub : Bool) (stamp : Word32) (after : Service), sv.LifecycleLaw →
    sv.lifecycle.running = true → (sv.close ua ub stamp).service = after →
    let stateRaises := (sv.close ua ub stamp).notices.filter fun d => d.kind == .state
    after.entryMarker = false ∧
      (∀ reached : Lifecycle,
        (sv.lifecycle = .priming ∨ sv.lifecycle = .active ∨ sv.lifecycle = .bypass) →
        reached =
          (if sv.lifecycle = .priming ∧ sv.entryMarker = false ∧ after.meas.ring.length = 30 then .active
            else sv.lifecycle) →
        after.haltPhase = none ∧
          (after.lifecycle ≠ .dropped →
            after.lifecycle = reached ∧ after.resume = none ∧ after.lim.pendingFade = sv.lim.pendingFade ∧
              stateRaises = if reached = sv.lifecycle then [] else [.state .active none .primed 0 0]) ∧
          (after.lifecycle = .dropped →
            after.resume.map Resume.lifecycle = some reached ∧ after.lim.pendingFade = some .fadeOut ∧
              stateRaises = [.state .dropped after.resume .noFeed 0 0])) ∧
      (∀ r, sv.lifecycle = .dropped → sv.resume = some r → after.lifecycle ≠ .dropped →
        after.lifecycle = r.lifecycle ∧ after.resume = none ∧ after.lim.queue = [] ∧ after.lim.lastGain = 1048576 ∧
          after.lim.pendingFade = some .fadeIn ∧ after.meas.accums = List.replicate sv.channels 0 ∧
          after.meas.filters = List.replicate sv.channels Filter.cleared ∧
          stateRaises = [.state r.lifecycle none .resumed 0 0]) ∧
      (sv.lifecycle = .halting → sv.haltPhase = some .halt →
        after.lifecycle = .halting ∧ after.haltPhase = some .fadeOut ∧ after.lim.pendingFade = some .fadeOut ∧
          after.feeds.inUse = sv.feeds.inUse ∧ after.feeds.crossfade = sv.feeds.crossfade ∧ stateRaises = []) ∧
      (sv.lifecycle = .halting → sv.haltPhase = some .fadeOut →
        after.lifecycle = .idle ∧ after.haltPhase = none ∧ after.feeds.inUse = sv.feeds.inUse ∧
          after.feeds.crossfade = none ∧ (sv.close ua ub stamp).released = sv.cost ∧
          stateRaises = [.state .idle none .halted 0 0])

/-! ### Requests that read (R167, R171 to R174) -/

/-- A KIND outside the catalogue is answered UNKNOWN (R167), and Identify by its rule (R171). -/
def Obligations.UnknownKindAndIdentify : Prop :=
  (∀ (s : State) (f : ControlFrame) (rest : List ControlFrame), Serving s f.kind f rest →
    f.kind ∉ [0x01, 0x02, 0x03, 0x10, 0x11, 0x12, 0x13, 0x14, 0x15, 0x16, 0x17, 0x20, 0x21, 0x30, (0x31 : Byte)] →
    exec .unknownKind s =
      .next (s.answered rest { kind := f.kind ||| 0x80, tag := f.tag, unit := f.unit, payload := [0x01] } .ordinary)) ∧
    ∀ (s : State) (f : ControlFrame) (rest : List ControlFrame), Serving s 0x01 f rest →
      exec .identify s =
        .next (s.answered rest
          { kind := 0x81, tag := f.tag, unit := f.unit
            payload :=
              if f.unit ≠ 0xFF then [0x03]
              else if f.payload ≠ [] then [0x02, BitVec.ofNat 8 f.payload.length]
              else
                [ 0x00, 0x0B, 0x5A, 0x00, 0x16, 0x01, 96,
                  (match s.storeStatus with | .valid => 0 | .invalid => 1 | .blank => 2) ] } .ordinary)

/-- Query of a service, a port and the device (R172, R173), with the PROTECT level it is served under. The level is an operand
of the model's command (log 5), and the service record leaves the deviation flag out, by R84 and R172 against R46 (log 32). -/
def Obligations.QueryRequest : Prop :=
  ∀ (s : State) (f : ControlFrame) (rest : List ControlFrame) (protect : PinLevel), Serving s 0x02 f rest →
    let sampled : State := { s with pins := { s.pins with protect := protect } }
    let reply := fun payload : List Byte =>
      exec (.query protect) s =
        .next (sampled.answered rest { kind := 0x82, tag := f.tag, unit := f.unit, payload := payload } .ordinary)
    (∀ (n : ServiceIndex) (sv : Service), f.unit = BitVec.ofNat 8 n.val → s.service n = sv → f.payload = [] →
      reply
        (0x00 ::
          [ sv.lifecycle.code, resumeCode sv.resume, (sv.layout.map Layout.code).getD 0, sv.feeds.mode.code,
            sv.feeds.inUse.code, BitVec.ofNat 8 (sv.mainRank s.portA.usable).code,
            BitVec.ofNat 8 (sv.reserveRank s.portB.usable).code,
            BitVec.ofNat 8 ((if sv.meas.momentary.isSome then 1 else 0) + (if sv.meas.shortTerm.isSome then 2 else 0)
              + (if sv.integ.integrated.isSome then 4 else 0) + (if sv.pendingProfile.isSome then 8 else 0)) ]
          ++ beBytes 2 (sv.meas.momentary.getD 0) ++ beBytes 2 (sv.meas.shortTerm.getD 0)
          ++ beBytes 2 (sv.integ.integrated.getD 0) ++ beBytes 2 sv.gain.g ++ beBytes 2 (reductionOf sv.lim.lastSubMin)
          ++ beBytes 2 sv.lim.lastClips ++ beBytes 2 sv.lim.totalClips ++ beBytes 4 sv.integ.sinceMark
          ++ beBytes 4 sv.integ.total ++ [BitVec.ofNat 8 sv.cost])) ∧
    (∀ (p : Port) (r : Receiver), f.unit = (match p with | .a => 0xF0 | .b => 0xF1) → s.receiver p = r →
      f.payload = [] →
      reply
        (0x00 :: [r.sync.code, (if r.centred then 1 else 0), BitVec.ofNat 8 r.store.length]
          ++ beBytes 2 r.erroredRun ++ beBytes 2 r.cleanRun ++ beBytes 2 r.errorsLast ++ beBytes 2 r.slips
          ++ beBytes 2 r.errorLimit)) ∧
    (f.unit = 0xFF → f.payload = [] →
      reply
        (0x00 :: [s.clock.source.code] ++ beBytes 4 s.subblock.toNat
          ++ [ BitVec.ofNat 8 s.committed, BitVec.ofNat 8 (96 - s.committed), s.storeStatus.code, PinLevel.code protect,
               (if s.control.storeJob.isSome then 1 else 0), BitVec.ofNat 8 s.notices.entries.length,
               s.resetCause.code ])) ∧
    ((∀ n : ServiceIndex, f.unit ≠ BitVec.ofNat 8 n.val) → f.unit ≠ 0xF0 → f.unit ≠ 0xF1 → f.unit ≠ 0xFF →
      reply [0x03]) ∧
    ((∃ n : ServiceIndex, f.unit = BitVec.ofNat 8 n.val) ∨ f.unit = 0xF0 ∨ f.unit = 0xF1 ∨ f.unit = 0xFF →
      f.payload ≠ [] → reply [0x02, BitVec.ofNat 8 f.payload.length])

/-- A Peek of page 0 of a link gives its slot table (R22). -/
def Obligations.PeekSlotTable : Prop :=
  ∀ (s : State) (f : ControlFrame) (rest : List ControlFrame) (table : SlotTable), Serving s 0x03 f rest →
    f.payload = [0] →
    (f.unit = 0xF0 ∧ table = s.tableA ∨ f.unit = 0xF1 ∧ table = s.tableB ∨ f.unit = 0xF2 ∧ table = s.tableOut) →
    ∃ page : List Byte,
      exec .peek s =
        .next (s.answered rest { kind := 0x83, tag := f.tag, unit := f.unit, payload := 0x00 :: page } .ordinary) ∧
      page.length = 64 ∧
      ∀ slot : SlotIndex,
        (page[2 * slot.val]?, page[2 * slot.val + 1]?) =
          match table.get slot with
          | some o => (some (BitVec.ofNat 8 o.service.val), some (BitVec.ofNat 8 o.channel.val))
          | none => (some 0xFF, some 0xFF)

/-- A Peek of a service: the history ring (R73), a page of the histogram (R91), the look-ahead queue (R138), the feed units
(R160), and the refusals of R174. -/
def Obligations.PeekServicePages : Prop :=
  ∀ (s : State) (f : ControlFrame) (rest : List ControlFrame), Serving s 0x03 f rest →
    let reply := fun payload : List Byte =>
      exec .peek s =
        .next (s.answered rest { kind := 0x83, tag := f.tag, unit := f.unit, payload := payload } .ordinary)
    (∀ (n : ServiceIndex) (sv : Service) (page : Byte), f.unit = BitVec.ofNat 8 n.val → s.service n = sv →
      f.payload = [page] →
      (page = 0 →
        reply
          (0x00 :: if sv.meas.ring = [] then [0]
            else
              BitVec.ofNat 8 sv.meas.ring.length :: beBytes 4 (sv.meas.lastAppend.getD 0).toNat
                ++ sv.meas.ring.flatMap fun q => beBytes 2 (conv q))) ∧
      (1 ≤ page.toNat → page.toNat ≤ 16 →
        reply
          (0x00 :: beBytes 2 (50 * (page.toNat - 1) : Nat) ++ beBytes 4 sv.integ.total
            ++ ((sv.integ.bins.toList.drop (50 * (page.toNat - 1))).take 50).flatMap fun c => beBytes 4 c)) ∧
      (page = 17 →
        reply
          (0x00 :: BitVec.ofNat 8 sv.lim.queue.length :: beBytes 3 sv.lim.lastGain
            ++ sv.lim.queue.flatMap fun seg =>
              (if seg.output.isSome then (3 : Byte) else if seg.peak.isSome then 2
                else if 16 ≤ (seg.lanes.headD []).length then 1 else 0)
                :: beBytes 4 (seg.peak.getD 0 : Nat) ++ beBytes 3 (seg.required.getD 0))) ∧
      (page = 18 →
        reply
          (0x00 :: [sv.feeds.mode.code, sv.feeds.inUse.code,
              BitVec.ofNat 8 ((if sv.feeds.mainMonitor.isSome then 1 else 0)
                + (if sv.feeds.reserveMonitor.isSome then 1 else 0))]
            ++ (match sv.feeds.mainMonitor with
                | some m =>
                  BitVec.ofNat 8 (sv.mainRank s.portA.usable).code :: beBytes 2 m.monitor.level
                    ++ beBytes 2 m.monitor.silentRun ++ beBytes 2 m.goodRun
                | none => [])
            ++ (match sv.feeds.reserveMonitor with
                | some m =>
                  BitVec.ofNat 8 (sv.reserveRank s.portB.usable).code :: beBytes 2 m.level ++ beBytes 2 m.silentRun
                | none => []))) ∧
      (18 < page.toNat → reply [0x05, page])) ∧
    (∀ page : Byte, (f.unit = 0xF0 ∨ f.unit = 0xF1 ∨ f.unit = 0xF2) → f.payload = [page] → page ≠ 0 →
      reply [0x05, page]) ∧
    ((∀ n : ServiceIndex, f.unit ≠ BitVec.ofNat 8 n.val) → f.unit ≠ 0xF0 → f.unit ≠ 0xF1 → f.unit ≠ 0xF2 →
      reply [0x03]) ∧
    ((∃ n : ServiceIndex, f.unit = BitVec.ofNat 8 n.val) ∨ f.unit = 0xF0 ∨ f.unit = 0xF1 ∨ f.unit = 0xF2 →
      f.payload.length ≠ 1 → reply [0x02, BitVec.ofNat 8 f.payload.length])

/-! ### Maps (R24 to R32) -/

/-- The checks of a Map payload accept exactly the payloads of the maps that fit (R24 to R27). -/
def Obligations.MapChecksAcceptExactly : Prop :=
  ∀ (owner : TableId → SlotIndex → Option Owner) (n : ServiceIndex) (payload : List Byte) (layout : Layout)
    (channels : List ChannelMap),
    checkMap owner n payload = .ok (layout, channels) ↔
      payload = mapPayload layout channels ∧ MapFits owner n layout channels

/-- An accepted Map: the slots named become the service's and its other slots FREE, the record takes the map with its cost, and
the units are prepared for it (R28 to R30, R32, R66, R92, R120, R161). -/
def Obligations.MapAccepted : Prop :=
  ∀ (s : State) (f : ControlFrame) (rest : List ControlFrame) (n : ServiceIndex) (layout : Layout)
    (channels : List ChannelMap), Serving s 0x10 f rest → f.unit = BitVec.ofNat 8 n.val →
    (s.service n).lifecycle.running = false → f.payload = mapPayload layout channels →
    MapFits s.owner n layout channels →
    ∃ (t : State) (reserve : Bool) (cost : Nat), exec .map s = .next t ∧
      (reserve = true ↔ ∀ ch ∈ channels, ch.reserve.isSome = true) ∧
      cost = (if reserve then 4 else 3) * channels.length ∧
      t =
        { s.answered rest { kind := 0x90, tag := f.tag, unit := f.unit, payload := [0x00, BitVec.ofNat 8 cost] }
            .ordinary with
          tableA := t.tableA, tableB := t.tableB, tableOut := t.tableOut, services := t.services } ∧
      (∀ (table : TableId) (slot : SlotIndex),
        (∀ (c : Nat) (ch : ChannelMap), channels[c]? = some ch → ch.slotIn table = some slot →
          ∃ o, t.owner table slot = some o ∧ o.service = n ∧ o.channel.val = c) ∧
        ((∀ ch ∈ channels, ch.slotIn table ≠ some slot) →
          t.owner table slot =
            if (s.owner table slot).map (fun o => o.service) = some n then none else s.owner table slot)) ∧
      (∀ m, m ≠ n → t.service m = s.service m) ∧
      t.service n =
        { s.service n with
          lifecycle := .idle
          layout := some layout
          map := channels
          reserveMapped := reserve
          cost := cost
          meas :=
            { filters := List.replicate channels.length Filter.cleared, accums := List.replicate channels.length 0
              ring := [], lastAppend := none, momentary := none, shortTerm := none }
          integ :=
            { bins := Vector.replicate 800 0, total := 0, integrated := none, deviation := false, sinceMark := 0 }
          lim := { (s.service n).lim with queue := [], lastGain := 1048576 }
          feeds :=
            { mainMonitor := some { monitor := { level := -12000, silentRun := 0, accum := 0 }, goodRun := 0 }
              reserveMonitor := if reserve then some { level := -12000, silentRun := 0, accum := 0 } else none
              mode :=
                if (s.service n).feeds.mode = .forceReserve ∧ reserve = false then .auto
                else (s.service n).feeds.mode
              inUse := .main
              crossfade := none } }

/-- A refused Map changes nothing but inbox and reply queue: the unit, the state, and the checks of the payload each with its
detail (R24 to R27, R30): a slot number out of range, a reserve that does not go with channel 0's, the first slot that an earlier
channel names in the same table, and the first that another service owns, in channel order and within a channel in table order,
each when no check before it fails. -/
def Obligations.MapRefused : Prop :=
  (∀ (s : State) (f : ControlFrame) (rest : List ControlFrame), Serving s 0x10 f rest →
      let reply := fun payload : List Byte =>
        exec .map s =
          .next (s.answered rest { kind := 0x90, tag := f.tag, unit := f.unit, payload := payload } .ordinary)
      ((∀ n : ServiceIndex, f.unit ≠ BitVec.ofNat 8 n.val) → reply [0x03]) ∧
      ∀ n : ServiceIndex, f.unit = BitVec.ofNat 8 n.val →
        ((s.service n).lifecycle.running = true → reply [0x04, (s.service n).lifecycle.code]) ∧
        ((s.service n).lifecycle.running = false →
          (f.payload = [] → reply [0x02, 0]) ∧
          (∀ (layout : Layout) (channels : List ChannelMap), f.payload = mapPayload layout channels →
            channels.length = layout.channels →
            (∀ (first ch : ChannelMap) (c : Nat), channels.head? = some first → channels[c]? = some ch →
              ch.reserve.isSome ≠ first.reserve.isSome →
              (∀ (j : Nat) (x : ChannelMap), j < c → channels[j]? = some x →
                x.reserve.isSome = first.reserve.isSome) →
              reply [0x05, BitVec.ofNat 8 c, 2]) ∧
            ∀ (before after : List MapField) (earlier field : MapField),
              (∀ a ∈ channels, ∀ b ∈ channels, a.reserve.isSome = b.reserve.isSome) →
              mapFields channels = before ++ field :: after → earlier ∈ before → earlier.table = field.table →
              earlier.slot = field.slot →
              (∀ x ∈ before, ∀ y ∈ before, x.table = y.table → x.slot = y.slot → x = y) →
              reply
                [ 0x06, (match field.table with | .portA => 0 | .portB => 1 | .output => 2),
                  BitVec.ofNat 8 field.slot.val, BitVec.ofNat 8 n.val, BitVec.ofNat 8 earlier.channel ]) ∧
          ∀ (code : Byte) (slots : List Byte), f.payload = code :: slots →
            (code ≠ 1 → code ≠ 2 → code ≠ 6 → reply [0x05, 0xFF, 0]) ∧
            ((code = 1 ∨ code = 2 ∨ code = 6) →
              (slots.length ≠ 3 * code.toNat → reply [0x02, BitVec.ofNat 8 f.payload.length]) ∧
              ∀ k : Nat, slots.length = 3 * code.toNat → k < slots.length →
                (∀ j b, j < k → slots[j]? = some b → b.toNat < 32 ∨ j % 3 = 1 ∧ b = 0xFF) →
                (∀ b, slots[k]? = some b → 32 ≤ b.toNat ∧ ¬(k % 3 = 1 ∧ b = 0xFF)) →
                reply [0x05, BitVec.ofNat 8 (k / 3), BitVec.ofNat 8 (k % 3 + 1)]))) ∧
    ∀ (s : State) (f : ControlFrame) (rest : List ControlFrame) (n : ServiceIndex) (layout : Layout)
      (before after : List MapField) (field : MapField) (channels : List ChannelMap) (o : Owner),
      Serving s 0x10 f rest → f.unit = BitVec.ofNat 8 n.val → (s.service n).lifecycle.running = false →
      f.payload = mapPayload layout channels → MapFits (fun _ _ => none) n layout channels →
      mapFields channels = before ++ field :: after →
      (∀ e ∈ before, ∀ p, s.owner e.table e.slot = some p → p.service = n) →
      s.owner field.table field.slot = some o → o.service ≠ n →
      exec .map s =
        .next (s.answered rest
          { kind := 0x90, tag := f.tag, unit := f.unit
            payload :=
              [ 0x06, (match field.table with | .portA => 0 | .portB => 1 | .output => 2),
                BitVec.ofNat 8 field.slot.val, BitVec.ofNat 8 o.service.val, BitVec.ofNat 8 o.channel.val ] } .ordinary)

/-- Unmap in every state and length (R31). What the record keeps beside the profile is the model's reading (log 25), and so is
that its OK carries no detail (R168, log 21). -/
def Obligations.UnmapRequest : Prop :=
  ∀ (s : State) (f : ControlFrame) (rest : List ControlFrame), Serving s 0x11 f rest →
    let reply := fun (t : State) (payload : List Byte) =>
      exec .unmap s =
        .next (t.answered rest { kind := 0x91, tag := f.tag, unit := f.unit, payload := payload } .ordinary)
    ((∀ n : ServiceIndex, f.unit ≠ BitVec.ofNat 8 n.val) → reply s [0x03]) ∧
    ∀ n : ServiceIndex, f.unit = BitVec.ofNat 8 n.val →
      ((s.service n).lifecycle.running = true → reply s [0x04, (s.service n).lifecycle.code]) ∧
      ((s.service n).lifecycle.running = false → f.payload ≠ [] →
        reply s [0x02, BitVec.ofNat 8 f.payload.length]) ∧
      ((s.service n).lifecycle = .vacant → f.payload = [] → reply s [0x00]) ∧
      ((s.service n).lifecycle = .idle → f.payload = [] →
        ∃ t : State, reply t [0x00] ∧
          t =
            { s with
              tableA := t.tableA, tableB := t.tableB, tableOut := t.tableOut
              services :=
                s.services.set n
                  { s.service n with
                    lifecycle := .vacant
                    layout := none
                    map := []
                    reserveMapped := false
                    cost := 0
                    meas := { (s.service n).meas with filters := [], accums := [] }
                    lim := { (s.service n).lim with queue := [] }
                    feeds :=
                      { mainMonitor := none, reserveMonitor := none, mode := .auto, inUse := .main
                        crossfade := none } } } ∧
          ∀ (table : TableId) (slot : SlotIndex),
            t.owner table slot =
              if (s.owner table slot).map (fun o => o.service) = some n then none else s.owner table slot)

/-! ### Profiles (R93 to R100) -/

/-- Every valid profile is read back from its 32-byte payload, and every payload accepted gives a valid profile (R93, R94,
R96). -/
def Obligations.ProfilePayloadRoundTrip : Prop :=
  (∀ p : Profile, p.Valid → (Profile.payload p).length = 32 ∧ profileOfPayload (Profile.payload p) = .ok p) ∧
    ∀ (payload : List Byte) (p : Profile), profileOfPayload payload = .ok p → p.Valid

/-- A Profile request: unit, length, range, protection, then in force at once in VACANT and IDLE and pending in a running
state (R94 to R100). The level of PROTECT is an operand of the model's command (log 5). -/
def Obligations.ProfileRequest : Prop :=
  ∀ (s : State) (f : ControlFrame) (rest : List ControlFrame) (protect : PinLevel), Serving s 0x12 f rest →
    let reply := fun (t : State) (payload : List Byte) =>
      exec (.profile protect) s =
        .next ({ t with pins := { t.pins with protect := protect } }.answered rest
          { kind := 0x92, tag := f.tag, unit := f.unit, payload := payload } .ordinary)
    ((∀ n : ServiceIndex, f.unit ≠ BitVec.ofNat 8 n.val) → reply s [0x03]) ∧
    ∀ (n : ServiceIndex) (sv : Service), f.unit = BitVec.ofNat 8 n.val → s.service n = sv →
      (f.payload.length ≠ 32 → reply s [0x02, BitVec.ofNat 8 f.payload.length]) ∧
      (f.payload.length = 32 →
        (∀ index : Nat, profileOfPayload f.payload = .error index → reply s [0x05, BitVec.ofNat 8 index]) ∧
        ∀ p reference : Profile, profileOfPayload f.payload = .ok p → reference = sv.pendingProfile.getD sv.profile →
          (protect = .high → p.target ≠ reference.target → reply s [0x08, 1]) ∧
          (protect = .high → p.target = reference.target → p.gainCeiling ≠ reference.gainCeiling →
            reply s [0x08, 7]) ∧
          (protect = .high → p.target = reference.target → p.gainCeiling = reference.gainCeiling →
            p.peakCeiling ≠ reference.peakCeiling → reply s [0x08, 9]) ∧
          (protect = .low ∨ p.target = reference.target ∧ p.gainCeiling = reference.gainCeiling ∧
              p.peakCeiling = reference.peakCeiling →
            (sv.lifecycle.running = true →
              reply { s with services := s.services.set n { sv with pendingProfile := some p } }
                [0x00, if sv.pendingProfile = none then 1 else 2]) ∧
            (sv.lifecycle.running = false →
              reply
                { s with
                  services :=
                    s.services.set n
                      { sv with
                        profile := p
                        gain :=
                          { g := p.initialGain, rampStart := lin p.initialGain, rampEnd := lin p.initialGain
                            regain := sv.gain.regain } } }
                [0x00, 0])))

/-! ### Lifecycle requests (R36 to R41, R86 to R89, R156, R157) -/

/-- Start of an IDLE service, against the engine budget (R36 to R38, R53, R129), and in every other state (R36, R39): it ends a
bypass, also one that a DROPPED service waits to resume. -/
def Obligations.StartRequest : Prop :=
  (∀ (s : State) (f : ControlFrame) (rest : List ControlFrame) (n : ServiceIndex) (sv : Service), Serving s 0x13 f rest →
      f.unit = BitVec.ofNat 8 n.val → s.service n = sv → sv.lifecycle = .idle → f.payload = [] →
      let reply := fun (t : State) (payload : List Byte) =>
        exec .start s =
          .next (t.answered rest { kind := 0x93, tag := f.tag, unit := f.unit, payload := payload } .ordinary)
      (96 < s.committed + sv.cost → reply s [0x07, BitVec.ofNat 8 sv.cost, BitVec.ofNat 8 (96 - s.committed)]) ∧
      (s.committed + sv.cost ≤ 96 →
        reply
          { s with
            committed := s.committed + sv.cost
            services :=
              s.services.set n
                { sv with
                  lifecycle := .priming
                  resume := none
                  entryMarker := true
                  haltPhase := none
                  meas :=
                    { filters := List.replicate sv.channels Filter.cleared, accums := List.replicate sv.channels 0
                      ring := [], lastAppend := none, momentary := none, shortTerm := none }
                  integ :=
                    { bins := Vector.replicate 800 0, total := 0, integrated := none, deviation := false
                      sinceMark := 0 }
                  gain :=
                    { g := sv.profile.initialGain, rampStart := lin sv.profile.initialGain
                      rampEnd := lin sv.profile.initialGain, regain := false }
                  lim :=
                    { queue := [], lastGain := 1048576, subMin := 1048576, lastSubMin := 1048576, clips := 0
                      lastClips := 0, totalClips := sv.lim.totalClips, fade := .silent, pendingFade := some .fadeIn }
                  feeds :=
                    { mainMonitor := some { monitor := { level := -12000, silentRun := 0, accum := 0 }, goodRun := 0 }
                      reserveMonitor :=
                        if sv.reserveMapped then some { level := -12000, silentRun := 0, accum := 0 } else none
                      mode := .auto, inUse := .main, crossfade := none } } }
          [0x00, 2, 0xFF])) ∧
    ∀ (s : State) (f : ControlFrame) (rest : List ControlFrame), Serving s 0x13 f rest →
      let reply := fun (t : State) (payload : List Byte) =>
        exec .start s =
          .next (t.answered rest { kind := 0x93, tag := f.tag, unit := f.unit, payload := payload } .ordinary)
      ((∀ n : ServiceIndex, f.unit ≠ BitVec.ofNat 8 n.val) → reply s [0x03]) ∧
      ∀ (n : ServiceIndex) (sv : Service), f.unit = BitVec.ofNat 8 n.val → s.service n = sv →
        let leaves := sv.lifecycle = .bypass ∨ sv.lifecycle = .dropped ∧ sv.resume = some .bypass
        (sv.lifecycle ≠ .idle → ¬leaves → reply s [0x04, sv.lifecycle.code, resumeCode sv.resume]) ∧
        ((sv.lifecycle = .idle ∨ leaves) → f.payload ≠ [] → reply s [0x02, BitVec.ofNat 8 f.payload.length]) ∧
        (f.payload = [] → sv.lifecycle = .bypass →
          reply
            { s with
              services :=
                s.services.set n { sv with lifecycle := if sv.meas.ring.length = 30 then .active else .priming } }
            [0x00, (if sv.meas.ring.length = 30 then 3 else 2), resumeCode sv.resume]) ∧
        (f.payload = [] → sv.lifecycle = .dropped → sv.resume = some .bypass →
          reply
            { s with
              services :=
                s.services.set n { sv with resume := some (if sv.meas.ring.length = 30 then .active else .priming) } }
            [0x00, 5, if sv.meas.ring.length = 30 then 3 else 2])

/-- Halt and Bypass in every state (R36, R40, R41). -/
def Obligations.HaltAndBypass : Prop :=
  ∀ (s : State) (f : ControlFrame) (rest : List ControlFrame) (n : ServiceIndex) (sv : Service),
    f.unit = BitVec.ofNat 8 n.val → s.service n = sv →
    (Serving s 0x14 f rest →
      let reply := fun (t : State) (payload : List Byte) =>
        exec .halt s =
          .next (t.answered rest { kind := 0x94, tag := f.tag, unit := f.unit, payload := payload } .ordinary)
      (sv.lifecycle = .vacant → reply s [0x04, 0, resumeCode sv.resume]) ∧
      (sv.lifecycle ≠ .vacant → f.payload ≠ [] → reply s [0x02, BitVec.ofNat 8 f.payload.length]) ∧
      (f.payload = [] → sv.lifecycle = .idle ∨ sv.lifecycle = .halting →
        reply s [0x00, sv.lifecycle.code, resumeCode sv.resume]) ∧
      (f.payload = [] →
        sv.lifecycle = .priming ∨ sv.lifecycle = .active ∨ sv.lifecycle = .bypass ∨ sv.lifecycle = .dropped →
        reply
          { s with
            services := s.services.set n { sv with lifecycle := .halting, resume := none, haltPhase := some .halt } }
          [0x00, 6, 0xFF])) ∧
    (Serving s 0x15 f rest →
      let reply := fun (t : State) (payload : List Byte) =>
        exec .bypass s =
          .next (t.answered rest { kind := 0x95, tag := f.tag, unit := f.unit, payload := payload } .ordinary)
      (sv.lifecycle = .vacant ∨ sv.lifecycle = .idle ∨ sv.lifecycle = .halting →
        reply s [0x04, sv.lifecycle.code, resumeCode sv.resume]) ∧
      (sv.lifecycle = .priming ∨ sv.lifecycle = .active ∨ sv.lifecycle = .bypass ∨ sv.lifecycle = .dropped →
        f.payload ≠ [] → reply s [0x02, BitVec.ofNat 8 f.payload.length]) ∧
      (f.payload = [] → sv.lifecycle = .priming ∨ sv.lifecycle = .active ∨ sv.lifecycle = .bypass →
        reply { s with services := s.services.set n { sv with lifecycle := .bypass } }
          [0x00, 4, resumeCode sv.resume]) ∧
      (f.payload = [] → sv.lifecycle = .dropped →
        reply { s with services := s.services.set n { sv with resume := some .bypass } } [0x00, 5, 4]))

/-- Mark in every state, with every option (R86 to R89). -/
def Obligations.MarkRequest : Prop :=
  ∀ (s : State) (f : ControlFrame) (rest : List ControlFrame) (n : ServiceIndex) (sv : Service), Serving s 0x16 f rest →
    f.unit = BitVec.ofNat 8 n.val → s.service n = sv →
    let reply := fun (t : State) (payload : List Byte) =>
      exec .mark s =
        .next (t.answered rest { kind := 0x96, tag := f.tag, unit := f.unit, payload := payload } .ordinary)
    let refused := sv.lifecycle = .vacant ∨ sv.lifecycle = .idle ∨ sv.lifecycle = .halting
    (refused → reply s [0x04, sv.lifecycle.code, resumeCode sv.resume]) ∧
    (¬refused → f.payload.length ≠ 1 → reply s [0x02, BitVec.ofNat 8 f.payload.length]) ∧
    (¬refused → ∀ option : Byte, f.payload = [option] → 3 < option.toNat → reply s [0x05, option]) ∧
    (¬refused → ∀ regain restart : Bool,
      f.payload = [(if regain then 1 else 0) + (if restart then 2 else 0)] →
      ∀ marked : Service,
        marked =
          { sv with
            integ :=
              { bins := Vector.replicate 800 0, total := 0, integrated := none, deviation := false, sinceMark := 0 }
            gain := { sv.gain with regain := sv.gain.regain || regain }
            meas :=
              if restart then
                { sv.meas with ring := [], lastAppend := none, momentary := none, shortTerm := none }
              else sv.meas
            lifecycle := if restart ∧ sv.lifecycle = .active then .priming else sv.lifecycle
            resume := if restart ∧ sv.resume = some .active then some .priming else sv.resume } →
        reply { s with services := s.services.set n marked }
          [0x00, marked.lifecycle.code, resumeCode marked.resume])

/-- Select in every state, with every mode byte (R156, R157). -/
def Obligations.SelectRequest : Prop :=
  ∀ (s : State) (f : ControlFrame) (rest : List ControlFrame) (n : ServiceIndex) (sv : Service), Serving s 0x17 f rest →
    f.unit = BitVec.ofNat 8 n.val → s.service n = sv →
    let reply := fun (t : State) (payload : List Byte) =>
      exec .select s =
        .next (t.answered rest { kind := 0x97, tag := f.tag, unit := f.unit, payload := payload } .ordinary)
    let refused := sv.lifecycle = .vacant ∨ sv.lifecycle = .halting
    (refused → reply s [0x04, sv.lifecycle.code, resumeCode sv.resume]) ∧
    (¬refused → f.payload.length ≠ 1 → reply s [0x02, BitVec.ofNat 8 f.payload.length]) ∧
    (¬refused → ∀ b : Byte, f.payload = [b] → 2 < b.toNat ∨ b = 2 ∧ sv.reserveMapped = false → reply s [0x05, b]) ∧
    (¬refused → ∀ mode : SelectionMode,
      f.payload = [(match mode with | .auto => 0 | .forceMain => 1 | .forceReserve => 2)] →
      (mode = .forceReserve → sv.reserveMapped = true) →
      reply { s with services := s.services.set n { sv with feeds := { sv.feeds with mode := mode } } }
        [ 0x00, (match mode with | .auto => 0 | .forceMain => 1 | .forceReserve => 2),
          (match sv.feeds.inUse with | .main => 0 | .reserve => 1) ])

/-- Halt, Bypass, Mark and Select to a unit that is no service are refused with UNIT (R36, R86, R156). -/
def Obligations.ServiceRequestsRefuseOtherUnits : Prop :=
  ∀ (s : State) (f : ControlFrame) (rest : List ControlFrame) (kind : Byte) (c : Instr), Serving s kind f rest →
    (kind, c) ∈ [((0x14 : Byte), Instr.halt), (0x15, .bypass), (0x16, .mark), (0x17, .select)] → 16 ≤ f.unit.toNat →
    exec c s =
      .next (s.answered rest { kind := kind ||| 0x80, tag := f.tag, unit := f.unit, payload := [0x03] } .ordinary)

/-! ### Settings (R9, R182) -/

/-- Ports sets the error limit and nothing else (R9), its refusals without detail (log 21); Notify replaces the mask and removes
the entries it disables (R182). -/
def Obligations.PortsAndNotifyRequests : Prop :=
  (∀ (s : State) (f : ControlFrame) (rest : List ControlFrame), Serving s 0x20 f rest →
      let reply := fun (t : State) (payload : List Byte) =>
        exec .ports s =
          .next (t.answered rest { kind := 0xA0, tag := f.tag, unit := f.unit, payload := payload } .ordinary)
      (f.unit ≠ 0xF0 → f.unit ≠ 0xF1 → reply s [0x03]) ∧
      ∀ p : Port, f.unit = (match p with | .a => 0xF0 | .b => 0xF1) →
        (f.payload.length ≠ 2 → reply s [0x02]) ∧
        ∀ (high low : Byte) (limit : Nat), f.payload = [high, low] → limit = 256 * high.toNat + low.toNat →
          (limit = 0 ∨ 4800 < limit → reply s [0x05]) ∧
          (1 ≤ limit → limit ≤ 4800 → reply (s.setReceiver p { s.receiver p with errorLimit := limit }) [0x00])) ∧
    ∀ (s : State) (f : ControlFrame) (rest : List ControlFrame), Serving s 0x21 f rest →
      let reply := fun (t : State) (payload : List Byte) =>
        exec .notify s =
          .next (t.answered rest { kind := 0xA1, tag := f.tag, unit := f.unit, payload := payload } .ordinary)
      (f.unit ≠ 0xFF → reply s [0x03]) ∧
      (f.unit = 0xFF → f.payload.length ≠ 1 → reply s [0x02, BitVec.ofNat 8 f.payload.length]) ∧
      ∀ (mask : Byte) (kept : List NoticeEntry), f.unit = 0xFF → f.payload = [mask] →
        kept = s.notices.entries.filter (fun e => mask.getLsbD (NoticeKind.code e.detail.kind)) →
        reply { s with notices := { entries := kept, mask := mask } }
          [0x00, mask, BitVec.ofNat 8 (s.notices.entries.length - kept.length)]

/-! ### Store and resets (R184 to R189) -/

/-- Store is refused or taken: taken, it forms the snapshot, sets the flag and appends no reply (R185); its completion (R186),
and what an assertion of RESET or a loss of power makes of one in flight. A Store writes its snapshot with the CRC-16 over it
(R184), and one that fails or is broken off leaves a check word that fails. The form of the image, the items of a spoilt one and
the outcome as an operand are the model's (log 9, log 28), as is PROTECT as an operand, held in `pins.protect` (log 5); a Store's
reply never counts (log 13). -/
def Obligations.StoreRequestAndCompletion : Prop :=
  (∀ (s : State) (f : ControlFrame) (rest : List ControlFrame) (protect : PinLevel), Serving s 0x30 f rest →
      let reply := fun payload : List Byte =>
        exec (.store protect) s =
          .next ({ s with pins := { s.pins with protect := protect } }.answered rest
            { kind := 0xB0, tag := f.tag, unit := f.unit, payload := payload } .ordinary)
      (f.unit ≠ 0xFF → reply [0x03]) ∧
      (f.unit = 0xFF → f.payload ≠ [] → reply [0x02, BitVec.ofNat 8 f.payload.length]) ∧
      (f.unit = 0xFF → f.payload = [] → protect = .high → reply [0x08]) ∧
      (f.unit = 0xFF → f.payload = [] → protect = .low → s.control.storeJob.isSome = true → reply [0x09]) ∧
      (f.unit = 0xFF → f.payload = [] → protect = .low → s.control.storeJob = none →
        exec (.store protect) s =
          .next
            { s with
              pins := { s.pins with protect := protect }
              control :=
                { s.control with
                  inbox := rest
                  storeJob :=
                    some
                      { tag := f.tag, unit := 0xFF
                        image :=
                          { limitA := s.portA.errorLimit, limitB := s.portB.errorLimit, mask := s.notices.mask
                            services :=
                              Vector.ofFn fun n =>
                                { map := (s.service n).layout.map fun layout => mapPayload layout (s.service n).map
                                  profile := Profile.payload (s.service n).profile } } } } })) ∧
    ∀ (s : State) (job : StoreJob), s.control.storeJob = some job →
      (∀ good : Bool, s.operating = true →
        exec (.storeComplete good) s =
          .next
            ({ s with
              flash := if good then Flash.sealed job.image else Flash.spoilt job.image
              storeStatus := if good then .valid else .invalid
              control :=
                { s.control with
                  storeJob := none
                  replies :=
                    s.control.replies ++
                      [({ frame :=
                            { kind := 0xB0, tag := job.tag, unit := job.unit
                              payload := if good then [0x00, 0] else [0x0B, 1] }
                          mark := .store } : Reply)] } } : State).kick) ∧
      Flash.sealed job.image = .written job.image (crc16 job.image.bytes) ∧
      (∃ check, Flash.spoilt job.image = .written job.image check ∧ check ≠ crc16 job.image.bytes) ∧
      ∃ t u, exec .resetPinAssert s = .next t ∧ t.flash = Flash.spoilt job.image ∧ t.control.storeJob = none ∧
        exec .lossOfPower s = .next u ∧ u.flash = Flash.spoilt job.image ∧ u.control.storeJob = none

/-- Reset is refused, or answered OK and waits for its reply to be sent; serving stops at it (R167, R188). -/
def Obligations.ResetRequest : Prop :=
  ∀ (s : State) (f : ControlFrame) (rest : List ControlFrame), Serving s 0x31 f rest →
    let reply := fun payload : List Byte =>
      exec .reset s =
        .next (s.answered rest { kind := 0xB1, tag := f.tag, unit := f.unit, payload := payload } .ordinary)
    (f.unit ≠ 0xFF → reply [0x03]) ∧
    (f.unit = 0xFF → f.payload.length ≠ 1 → reply [0x02, BitVec.ofNat 8 f.payload.length]) ∧
    ∀ b : Byte, f.unit = 0xFF → f.payload = [b] →
      (1 < b.toNat → reply [0x05, b]) ∧
      (b.toNat ≤ 1 → s.control.storeJob.isSome = true → reply [0x09]) ∧
      (b.toNat ≤ 1 → s.control.storeJob = none →
        ∃ t, exec .reset s = .next t ∧
          t =
            { s with control := { s.control with resetPhase := .waiting (if b = 0 then .keep else .reload) } }.answered
              rest { kind := 0xB1, tag := f.tag, unit := f.unit, payload := [0x00] } .reset ∧
          ∀ kinds, t.servable kinds = none)

/-- A Reset that is due acts: KEEP keeps the configuration and RELOAD loads it from the image (R34, R184), both options keep the
rate, the clock and the output counter and clear the rest (R3, R16, R18, R105, R175, R188); then autostart takes the IDLE services
in index order against a committed total of 0, and READY follows (R55, R187, R189). The line keeps the last frame (log 19). -/
def Obligations.ResetActs : Prop :=
  ∀ (s : State) (option : ResetOption), s.operating = true → s.control.resetPhase = .due option →
    ∃ cleared t : State, exec .resetRequestActs s = .next t ∧ t = cleared.autostarted .request ∧
      cleared =
        { s with
          frame := 0, subblock := 0, committed := 0, resetCause := .request, portA := cleared.portA
          portB := cleared.portB, tableA := cleared.tableA, tableB := cleared.tableB, tableOut := cleared.tableOut
          services := cleared.services, notices := { entries := [], mask := cleared.notices.mask }
          storeStatus := cleared.storeStatus
          control :=
            { receiver := .hunt, inbox := [], replies := [], sending := .idle, storeJob := none, resetPhase := .none } } ∧
      (∀ n, (cleared.service n).UnitsCleared) ∧ (option = .reload → cleared.LoadedFrom s.flash) ∧
      (option = .keep → ∀ n, (cleared.service n).cost = (s.service n).cost ∧
        (cleared.service n).profile = (s.service n).profile ∧
        (cleared.service n).lifecycle = if (s.service n).lifecycle = .vacant then .vacant else .idle) ∧
      t.rate = s.rate ∧ t.clock = s.clock ∧ t.output = s.output ∧ t.pins = s.pins ∧ t.flash = s.flash ∧
      t.frame = 0 ∧ t.subblock = 0 ∧ t.resetCause = .request ∧
      t.control.receiver = .hunt ∧ t.control.inbox = [] ∧ t.control.replies = [] ∧ t.control.storeJob = none ∧
      t.control.resetPhase = .none ∧
      Raised t.notices.mask t.notices .device (.ready .request t.storeStatus) ∧
      (∀ p, t.receiver p = Receiver.afterReset (t.receiver p).errorLimit) ∧
      (option = .keep →
        t.owner = s.owner ∧ t.notices.mask = s.notices.mask ∧ t.storeStatus = s.storeStatus ∧
          (∀ p, (t.receiver p).errorLimit = (s.receiver p).errorLimit) ∧
          ∀ n, (t.service n).layout = (s.service n).layout ∧ (t.service n).map = (s.service n).map ∧
            (t.service n).reserveMapped = (s.service n).reserveMapped ∧ (t.service n).cost = (s.service n).cost ∧
            (t.service n).profile = (s.service n).profile ∧ (t.service n).pendingProfile = none ∧
            (t.service n).gain.g = (s.service n).profile.initialGain ∧ (t.service n).meas.ring = [] ∧
            (t.service n).integ.total = 0 ∧ (t.service n).lim.totalClips = 0 ∧
            ((s.service n).lifecycle = .vacant ↔ (t.service n).lifecycle = .vacant) ∧
            ((s.service n).lifecycle ≠ .vacant → (s.service n).profile.autostart = false →
              (t.service n).lifecycle = .idle)) ∧
      (option = .reload → s.flash.status ≠ .valid →
        t.storeStatus = s.flash.status ∧ t.notices.mask = 0xFF ∧
          (∀ table slot, t.owner table slot = none) ∧ (∀ p, (t.receiver p).errorLimit = 48) ∧
          ∀ n, (t.service n).lifecycle = .vacant ∧ (t.service n).profile = Profile.factory)

/-- The start-up sequence of power-on and of the release of RESET (R3, R18, R162, R175, R187): the load of the image (R34, R184),
autostart in index order against a committed total of 0 (R55), and READY (R189). The first frame under REFERENCE waits for its
edge (R1). The first power-on of a blank part with its rate pins and PROTECT low and REFCLK present is the reset state of this
model (log 8). -/
def Obligations.StartUp : Prop :=
  (∀ (s : State) (rate1 rate0 : PinLevel) (age : Option Rat) (cause : ResetCause) (c : Instr),
    (c = .powerOn rate1 rate0 age ∧ cause = .power ∧ s.pins.supplyGood = false ∧ s.pins.resetAsserted = false ∨
      c = .resetPinRelease rate1 rate0 age ∧ cause = .pin ∧ s.pins.supplyGood = true ∧ s.pins.resetAsserted = true) →
    ∃ cleared t : State, exec c s = .next t ∧ t = cleared.autostarted cause ∧ cleared.LoadedFrom s.flash ∧
      (∀ n, (cleared.service n).UnitsCleared) ∧
      cleared.committed = 0 ∧ cleared.subblock = 0 ∧ cleared.notices.entries = [] ∧ cleared.control.replies = [] ∧
      cleared.control.sending = .idle ∧
      t.pins = { s.pins with supplyGood := true, resetAsserted := false, rate1 := rate1, rate0 := rate0 } ∧
      t.rate =
        (match rate1, rate0 with
          | .low, .low => .bps57600
          | .low, .high => .bps115200
          | .high, .low => .bps230400
          | .high, .high => .bps460800) ∧
      (t.clock.source = .reference ↔ ∃ x, age = some x ∧ x ≤ 3) ∧ t.clock.missing = 0 ∧ t.clock.returns = 0 ∧
      (t.clock.start = if t.clock.source = .reference then .window else .given) ∧
      t.frame = 0 ∧ t.subblock = 0 ∧ t.output.counter = 0 ∧ t.resetCause = cause ∧ t.flash = s.flash ∧
      t.control.receiver = .hunt ∧ t.control.inbox = [] ∧ t.control.replies = [] ∧ t.control.storeJob = none ∧
      t.control.resetPhase = .none ∧
      t.storeStatus = s.flash.status ∧
      Raised t.notices.mask t.notices .device (.ready cause t.storeStatus) ∧
      ∀ p, t.receiver p = Receiver.afterReset (t.receiver p).errorLimit) ∧
    ∀ s : State, s.pending = [] → s.flash = .blank →
      s.pins = { supplyGood := false, resetAsserted := false, protect := .low, rate1 := s.pins.rate1
                 rate0 := s.pins.rate0 } →
      exec (.powerOn .low .low (some 0)) s = .next State.reset

/-- While RESET is asserted or the supply is gone the part is silent, and an assertion or a loss of power makes it so (R16,
R17, R162, R181, R183, R187); that every other command changes nothing in it is the model's choice (log 1), and power that comes
while RESET is asserted waits for its release (log 14). What an assertion or a
loss of power leaves for the start-up to set is the model's choice (log 15). -/
def Obligations.SilentPart : Prop :=
  ∀ s : State,
    (∃ t u, exec .resetPinAssert s = .next t ∧ exec .lossOfPower s = .next u ∧
      t.pins = { s.pins with resetAsserted := true } ∧ u.pins = { s.pins with supplyGood := false } ∧
      ∀ v, v = t ∨ v = u →
        v.attn = .high ∧ v.output.line = .steady ∧ v.control.sending = .idle ∧ v.control.receiver = .hunt ∧
          v.control.inbox = [] ∧ v.control.replies = [] ∧ v.notices.entries = [] ∧
          (∀ p, v.receiver p = Receiver.afterReset (s.receiver p).errorLimit) ∧
          v.storeStatus = s.storeStatus ∧ (s.control.storeJob = none → v.flash = s.flash)) ∧
    (s.operating = false → ∀ c : Instr,
      (∀ r1 r0 age, c ≠ .powerOn r1 r0 age) → (∀ r1 r0 age, c ≠ .resetPinRelease r1 r0 age) → c ≠ .resetPinAssert →
      c ≠ .lossOfPower → exec c s = .next s) ∧
    (s.pins.supplyGood = false → s.pins.resetAsserted = true → ∀ r1 r0 age,
      exec (.powerOn r1 r0 age) s = .next { s with pins := { s.pins with supplyGood := true } })

/-- What a Store wrote with its check word comes back at the next start-up (R34, R184): in a part that kept the slot law, with
valid profiles and limits, every map, owner, profile, limit and the mask are again as they stood, and each cost is that of R32
for the layout and the loaded reserve. The form of the image is the model's (log 9). -/
def Obligations.StoredConfigurationComesBack : Prop :=
  ∀ (s u : State) (rate1 rate0 : PinLevel) (age : Option Rat), s.SlotLaw → (∀ n, (s.service n).profile.Valid) →
    (∀ p, 1 ≤ (s.receiver p).errorLimit ∧ (s.receiver p).errorLimit ≤ 4800) →
    u.flash = .written s.snapshot (crc16 s.snapshot.bytes) → u.pins.supplyGood = true → u.pins.resetAsserted = true →
    ∃ t, exec (.resetPinRelease rate1 rate0 age) u = .next t ∧ t.owner = s.owner ∧ t.notices.mask = s.notices.mask ∧
      t.storeStatus = .valid ∧ (∀ p, (t.receiver p).errorLimit = (s.receiver p).errorLimit) ∧
      ∀ n, (t.service n).layout = (s.service n).layout ∧ (t.service n).map = (s.service n).map ∧
        (t.service n).profile = (s.service n).profile ∧
        ((t.service n).lifecycle = .vacant ↔ (s.service n).lifecycle = .vacant) ∧
        ∀ layout, (s.service n).layout = some layout →
          (t.service n).cost = (if (t.service n).reserveMapped then 4 else 3) * layout.channels

/-- Autostart of one service (R55, R56): it commits the cost or raises CAPACITY. -/
def Obligations.Autostart : Prop :=
  ∀ (s : State) (n : ServiceIndex) (sv : Service), s.service n = sv →
    (sv.lifecycle = .idle → sv.profile.autostart = true → s.committed + sv.cost ≤ 96 →
      ∃ started : Service,
        s.autostart n =
          ({ s with committed := s.committed + sv.cost, services := s.services.set n started }.raise (.service n)
            (.state .priming none .autostart 0 0)) ∧
        started.lifecycle = .priming ∧ started.entryMarker = false ∧ started.gain.g = sv.profile.initialGain ∧
        started.lim.pendingFade = some .fadeIn ∧ started.lim.fade = .silent ∧ started.feeds.mode = .auto) ∧
    (sv.lifecycle = .idle → sv.profile.autostart = true → 96 < s.committed + sv.cost →
      s.autostart n = s.raise (.service n) (.state .idle none .capacity sv.cost (96 - s.committed))) ∧
    (sv.lifecycle ≠ .idle ∨ sv.profile.autostart = false → s.autostart n = s)

/-! ### The control port (R164 to R170, R177, R180) -/

/-- One byte of the control port (R162, R164), and what becomes of a frame in progress: TIMEOUT, LENGTH and CHECK faults, the
inbox, or FULL (R164 to R166). -/
def Obligations.ControlBytesAndFrames : Prop :=
  (∀ (s : State) (b : Byte), s.operating = true →
      exec (.controlByteReceived b .low) s = .next s ∧
      (s.control.receiver = .hunt →
        exec (.controlByteReceived b .high) s =
          .next
            (if b = 0xA5 ∧ replyCount s.control.replies ≤ 7 then
              { s with control := { s.control with receiver := .inFrame [] } }
            else s)) ∧
      ∀ bytes : List Byte, s.control.receiver = .inFrame bytes →
        (∀ len, bytes.head? = some len → len.toNat ≤ 240 ∧ bytes.length < 6 + len.toNat) →
        exec (.controlByteReceived b .high) s =
          .next { s with control := { s.control with receiver := .inFrame (bytes ++ [b]) } }) ∧
    ∀ (s : State) (bytes : List Byte), s.operating = true → s.control.receiver = .inFrame bytes →
      let fault := fun reason : Byte =>
        ({ s with control := { s.control with receiver := .hunt } }.appendReply
          { kind := 0x7F, tag := 0, unit := 0xFF, payload := [reason] } .ordinary).kick
      ((∀ len, bytes.head? = some len → len.toNat ≤ 240 ∧ bytes.length < 6 + len.toNat) →
        exec .frameTimeout s = .next (fault 1)) ∧
      (∀ len, bytes.head? = some len → 240 < len.toNat → exec .lengthFault s = .next (fault 2)) ∧
      ∀ (len kind tag unit : Byte) (tail : List Byte), bytes = len :: kind :: tag :: unit :: tail → len.toNat ≤ 240 →
        tail.length = len.toNat + 2 →
        (crc16 bytes ≠ 0 → exec .controlFrameComplete s = .next (fault 3)) ∧
        (crc16 bytes = 0 → s.control.inbox.length ≤ 3 →
          exec .controlFrameComplete s =
            .next
              { s with
                control :=
                  { s.control with
                    receiver := .hunt
                    inbox := s.control.inbox ++ [{ kind, tag, unit, payload := tail.take len.toNat }] } }) ∧
        (crc16 bytes = 0 → 4 ≤ s.control.inbox.length →
          exec .controlFrameComplete s =
            .next
              ({ s with control := { s.control with receiver := .hunt } }.appendReply
                { kind := kind ||| 0x80, tag := tag, unit := unit, payload := [0x0A] } .ordinary).kick)

/-- Every frame sent byte by byte to a hunting receiver with room arrives in the inbox as it was sent (R163, R164, R166). -/
def Obligations.FramesArriveAsSent : Prop :=
  ∀ (s : State) (f : ControlFrame), s.operating = true → s.control.receiver = .hunt →
    replyCount s.control.replies ≤ 7 → s.control.inbox.length ≤ 3 → f.payload.length ≤ 240 →
    exec .controlFrameComplete (s.afterBytes f.bytes) =
      .next { s with control := { s.control with inbox := s.control.inbox ++ [f] } }

/-- The end of a transmitted frame, with its notice entry still in the set or removed meanwhile by a Notify (R182), and what a
free transmitter takes next (R169, R170, R180, R188). When it chooses, against the worked sequence of chapter 10, and that nothing
begins while a reset is due, are the model's reading (log 16, log 17, log 30). -/
def Obligations.TransmitterTakesNext : Prop :=
  ∀ s : State, s.operating = true →
    (∀ (f : ControlFrame) (r : Reply) (rest : List Reply), s.control.sending = .reply f → s.control.replies = r :: rest →
      (r.mark ≠ .reset ∨ s.control.resetPhase = .none) →
      exec .transmitFrameEnd s =
        .next { s with control := { s.control with replies := rest, sending := .idle } }.kick) ∧
    (∀ (f : ControlFrame) (r : Reply) (rest : List Reply) (option : ResetOption), s.control.sending = .reply f →
      s.control.replies = r :: rest → r.mark = .reset → s.control.resetPhase = .waiting option →
      exec .transmitFrameEnd s =
        .next { s with control := { s.control with replies := rest, sending := .idle, resetPhase := .due option } }) ∧
    (∀ (f : ControlFrame) (e : NoticeEntry) (rest : List NoticeEntry) (during : FrameRaises),
      s.control.sending = .notice f → s.notices.entries = e :: rest → e.inFrame = some during →
      (∀ x ∈ rest, x.inFrame = none) →
      exec .transmitFrameEnd s =
        .next
          { s with
            control := { s.control with sending := .idle }
            notices :=
              { s.notices with
                entries :=
                  rest ++
                    if during.raises = 0 then []
                    else
                      [({ e with
                          count := during.raises
                          firstRaised := during.first.getD e.firstRaised
                          inFrame := none } : NoticeEntry)] } }.kick) ∧
    (∀ f : ControlFrame, s.control.sending = .notice f → (∀ x ∈ s.notices.entries, x.inFrame = none) →
      exec .transmitFrameEnd s = .next { s with control := { s.control with sending := .idle } }.kick) ∧
    (s.control.sending = .idle → (∀ option, s.control.resetPhase ≠ .due option) →
      (∀ r rest, s.control.replies = r :: rest →
        s.kick = { s with control := { s.control with sending := .reply r.frame } }) ∧
      (s.control.replies = [] → s.notices.entries = [] → s.kick = s) ∧
      ∀ e rest, s.control.replies = [] → s.notices.entries = e :: rest →
        s.kick =
          { s with
            control :=
              { s.control with
                sending :=
                  .notice
                    { kind := 0x40, tag := 0, unit := e.origin.unit
                      payload :=
                        BitVec.ofNat 8 (NoticeKind.code e.detail.kind) :: beBytes 4 e.firstRaised.toNat
                          ++ BitVec.ofNat 8 e.count :: e.detail.bytes } }
            notices :=
              { s.notices with entries := { e with inFrame := some { raises := 0, first := none } } :: rest } }) ∧
    (s.control.sending ≠ .idle → s.kick = s)

/-- A raise acts on the notice set (R177), and ATTN shows whether a notice waits (R181). -/
def Obligations.RaiseActs : Prop :=
  ∀ (s : State) (o : Origin) (d : Detail),
    (s.operating = true → (s.attn = .low ↔ s.notices.entries ≠ [])) ∧
    (s.notices.mask.getLsbD (NoticeKind.code d.kind) = false → s.raise o d = s) ∧
    (s.notices.mask.getLsbD (NoticeKind.code d.kind) = true →
      ((∀ e ∈ s.notices.entries, e.pair ≠ (o, d.kind)) →
        s.raise o d =
          { s with
            notices :=
              { s.notices with
                entries :=
                  s.notices.entries ++
                    [{ origin := o, detail := d, firstRaised := s.subblock, count := 1, inFrame := none }] } }) ∧
      ∀ (before after : List NoticeEntry) (e : NoticeEntry), s.notices.Lawful →
        s.notices.entries = before ++ e :: after → e.pair = (o, d.kind) →
        s.raise o d =
          { s with
            notices :=
              { s.notices with
                entries :=
                  before ++
                    { e with
                      detail := d
                      count := min (e.count + 1) 255
                      inFrame :=
                        match e.inFrame with
                        | some during =>
                          some
                            { raises := min (during.raises + 1) 255
                              first := some (during.first.getD s.subblock) }
                        | none => none } :: after } })

/-! ### Laws that every command keeps -/

/-- The state after reset keeps every law of the part. -/
def Obligations.ResetStateKeepsTheLaws : Prop :=
  State.reset.TimebaseLaw ∧ State.reset.SlotLaw ∧ State.reset.BudgetLaw ∧ State.reset.control.Lawful ∧
    State.reset.notices.Lawful ∧
    ∀ n, (State.reset.service n).LifecycleLaw ∧ (State.reset.service n).FeedLaw ∧ (State.reset.service n).GainLaw ∧
      (State.reset.service n).integ.HistogramLaw ∧ (State.reset.service n).LimiterLaw State.reset.frame

/-- Every command keeps the clock unit, the timebase and the receivers lawful (R1, R2, R4, R6 to R13): their counts in range, no
wait for an edge under INTERNAL, and zeros in every ABSENT frame. -/
def Obligations.TimebaseLawKept : Prop :=
  ∀ s t : State, s.TimebaseLaw → step s = .next t → t.TimebaseLaw

/-- Every command keeps the law of slot ownership (R20) and the law of the engine budget (R53). -/
def Obligations.SlotAndBudgetLawsKept : Prop :=
  (∀ s t : State, s.SlotLaw → step s = .next t → t.SlotLaw) ∧
    ∀ s t : State, s.BudgetLaw → step s = .next t → t.BudgetLaw

/-- Every command keeps lifecycle state, resume state, close phase, ring and pending profile in agreement, and the ring at 30
entries or fewer (R35, R65, R93, R99); and the law of the feed in use (R146), with the monitors a map brings (R140). -/
def Obligations.LifecycleAndFeedLawsKept : Prop :=
  (∀ s t : State, (∀ n, (s.service n).LifecycleLaw) → step s = .next t → ∀ n, (t.service n).LifecycleLaw) ∧
    ∀ s t : State, (∀ n, (s.service n).FeedLaw) → step s = .next t → ∀ n, (t.service n).FeedLaw

/-- Every command keeps the law of the loudness gain (R104) and the law of the gating histogram (R77). -/
def Obligations.GainAndHistogramLawsKept : Prop :=
  (∀ s t : State, (∀ n, (s.service n).GainLaw) → step s = .next t → ∀ n, (t.service n).GainLaw) ∧
    ∀ s t : State, (∀ n, (s.service n).integ.HistogramLaw) → step s = .next t → ∀ n, (t.service n).integ.HistogramLaw

/-- Every command keeps the look-ahead queues lawful, with the limiter gain under every segment's required gain (R118, R127), and
a fade in progress at one of its 480 positions (R131). -/
def Obligations.LimiterLawKept : Prop :=
  ∀ s t : State, (∀ n, (s.service n).LimiterLaw s.frame) → step s = .next t → ∀ n, (t.service n).LimiterLaw t.frame

/-- Every command keeps the bounds of inbox and reply queue (R166, R169) and one entry for each pair of origin and kind in the
notice set (R177). -/
def Obligations.ControlAndNoticeLawsKept : Prop :=
  ∀ s t : State, s.control.Lawful → s.notices.Lawful → step s = .next t → t.control.Lawful ∧ t.notices.Lawful
end

