-- ==== Sys2Proof/Laws/Arith.lean ====
section
/-! SUPPORT. What the arithmetic operations give, said once: the climb that decides every logarithm and power, clamping,
saturating counts, and the lengths of byte fields. -/

namespace Sys2Proof.Machine

/-- The climb finds the last value at which a downward closed test holds. -/
theorem climb_spec (test : Int → Bool) (hdown : ∀ a b, a ≤ b → test b = true → test a = true) (bits : Nat) (v : Int)
    (hv : test v = true) :
    v ≤ climb test bits v ∧ climb test bits v < v + 2 ^ bits ∧ test (climb test bits v) = true ∧
      ∀ k, climb test bits v < k → k < v + 2 ^ bits → test k = false := by
  induction bits generalizing v with
  | zero =>
    unfold climb
    exact ⟨le_refl _, by omega, hv, fun k h1 h2 => by omega⟩
  | succ n ih =>
    have hpow : (2 : Int) ^ (n + 1) = 2 ^ n + 2 ^ n := by ring
    have hpos : (0 : Int) < 2 ^ n := by positivity
    unfold climb
    split
    · next h =>
      obtain ⟨h1, h2, h3, h4⟩ := ih (v + 2 ^ n) h
      exact ⟨by omega, by omega, h3, fun k hk hlt => h4 k hk (by omega)⟩
    · next h =>
      obtain ⟨h1, h2, h3, h4⟩ := ih v hv
      refine ⟨h1, by omega, h3, fun k hk hlt => ?_⟩
      by_cases hkv : k < v + 2 ^ n
      · exact h4 k hk hkv
      · cases ht : test k with
        | false => rfl
        | true => exact absurd (hdown _ _ (by omega) ht) h

theorem clampTo_eq (lo hi v : Int) (h : lo ≤ hi) : clampTo lo hi v = max lo (min hi v) := by
  unfold clampTo
  split
  · omega
  · split <;> omega

theorem clampTo_within (lo hi v : Int) (h : lo ≤ hi) : lo ≤ clampTo lo hi v ∧ clampTo lo hi v ≤ hi := by
  rw [clampTo_eq lo hi v h]
  omega

theorem satInc_le (bound n : Nat) : satInc bound n ≤ bound := Nat.min_le_right _ _

theorem satInc_of_lt {bound n : Nat} (h : n < bound) : satInc bound n = n + 1 := by
  unfold satInc
  omega

@[simp] theorem beBytes_length (n : Nat) (v : Int) : (beBytes n v).length = n := by
  simp [beBytes]

@[simp] theorem ChannelMap.bytes_length (ch : ChannelMap) : ch.bytes.length = 3 := rfl

theorem mapPayload_length (layout : Layout) (channels : List ChannelMap) :
    (mapPayload layout channels).length = 1 + 3 * channels.length := by
  simp [mapPayload, List.length_flatMap, Nat.mul_comm, Nat.add_comm]

@[simp] theorem slotOf_byteOf (s : SlotIndex) : slotOf (byteOf s.val) = some s := by
  revert s; decide

theorem slotOf_some {b : Byte} {s : SlotIndex} (h : slotOf b = some s) : byteOf s.val = b := by
  unfold slotOf at h
  split at h
  · simp only [Option.some.injEq] at h
    subst h
    simp [byteOf]
  · exact absurd h (by simp)

@[simp] theorem layoutOfCode_code (l : Layout) : layoutOfCode l.code = some l := by
  cases l <;> rfl

end Sys2Proof.Machine
end

