-- ==== Sys2Proof/Laws/Service.lean ====
section
/-! SUPPORT. One lemma for each field of a service record that a stage of the close or a request's update leaves alone, and
the fields of the whole close. -/

namespace Sys2Proof.Machine

/-! ### Profile stage -/

@[simp] theorem Service.profileStage_lifecycle (sv : Service) : (sv.profileStage).lifecycle = sv.lifecycle := by
  unfold Service.profileStage; split <;> rfl

@[simp] theorem Service.profileStage_resume (sv : Service) : (sv.profileStage).resume = sv.resume := by
  unfold Service.profileStage; split <;> rfl

@[simp] theorem Service.profileStage_entryMarker (sv : Service) : (sv.profileStage).entryMarker = sv.entryMarker := by
  unfold Service.profileStage; split <;> rfl

@[simp] theorem Service.profileStage_haltPhase (sv : Service) : (sv.profileStage).haltPhase = sv.haltPhase := by
  unfold Service.profileStage; split <;> rfl

@[simp] theorem Service.profileStage_layout (sv : Service) : (sv.profileStage).layout = sv.layout := by
  unfold Service.profileStage; split <;> rfl

@[simp] theorem Service.profileStage_map (sv : Service) : (sv.profileStage).map = sv.map := by
  unfold Service.profileStage; split <;> rfl

@[simp] theorem Service.profileStage_reserveMapped (sv : Service) : (sv.profileStage).reserveMapped = sv.reserveMapped := by
  unfold Service.profileStage; split <;> rfl

@[simp] theorem Service.profileStage_cost (sv : Service) : (sv.profileStage).cost = sv.cost := by
  unfold Service.profileStage; split <;> rfl

@[simp] theorem Service.profileStage_meas (sv : Service) : (sv.profileStage).meas = sv.meas := by
  unfold Service.profileStage; split <;> rfl

@[simp] theorem Service.profileStage_integ (sv : Service) : (sv.profileStage).integ = sv.integ := by
  unfold Service.profileStage; split <;> rfl

@[simp] theorem Service.profileStage_feeds (sv : Service) : (sv.profileStage).feeds = sv.feeds := by
  unfold Service.profileStage; split <;> rfl

@[simp] theorem Service.profileStage_profile (sv : Service) :
    sv.profileStage.profile = sv.pendingProfile.getD sv.profile := by
  unfold Service.profileStage; split <;> simp_all

@[simp] theorem Service.profileStage_pendingProfile (sv : Service) : sv.profileStage.pendingProfile = none := by
  unfold Service.profileStage; split <;> simp_all

@[simp] theorem Service.profileStage_regain (sv : Service) : sv.profileStage.gain.regain = sv.gain.regain := by
  unfold Service.profileStage; split <;> rfl

theorem Service.profileStage_g (sv : Service) :
    sv.profileStage.gain.g =
      match sv.pendingProfile with
      | some p => clampTo p.gainFloor p.gainCeiling sv.gain.g
      | none => sv.gain.g := by
  unfold Service.profileStage; split <;> simp_all

@[simp] theorem Service.profileStage_lim_lastGain (sv : Service) : sv.profileStage.lim.lastGain = sv.lim.lastGain := by
  unfold Service.profileStage; split <;> rfl

@[simp] theorem Service.profileStage_lim_subMin (sv : Service) : sv.profileStage.lim.subMin = sv.lim.subMin := by
  unfold Service.profileStage; split <;> rfl

@[simp] theorem Service.profileStage_lim_lastSubMin (sv : Service) : sv.profileStage.lim.lastSubMin = sv.lim.lastSubMin := by
  unfold Service.profileStage; split <;> rfl

@[simp] theorem Service.profileStage_lim_clips (sv : Service) : sv.profileStage.lim.clips = sv.lim.clips := by
  unfold Service.profileStage; split <;> rfl

@[simp] theorem Service.profileStage_lim_lastClips (sv : Service) : sv.profileStage.lim.lastClips = sv.lim.lastClips := by
  unfold Service.profileStage; split <;> rfl

@[simp] theorem Service.profileStage_lim_totalClips (sv : Service) : sv.profileStage.lim.totalClips = sv.lim.totalClips := by
  unfold Service.profileStage; split <;> rfl

@[simp] theorem Service.profileStage_lim_fade (sv : Service) : sv.profileStage.lim.fade = sv.lim.fade := by
  unfold Service.profileStage; split <;> rfl

@[simp] theorem Service.profileStage_lim_pendingFade (sv : Service) : sv.profileStage.lim.pendingFade = sv.lim.pendingFade := by
  unfold Service.profileStage; split <;> rfl

/-! ### Measurement stage -/

@[simp] theorem Service.measurementStage_lifecycle (sv : Service) (b : Bool) (w : Word32) : (sv.measurementStage b w).lifecycle = sv.lifecycle := rfl

@[simp] theorem Service.measurementStage_resume (sv : Service) (b : Bool) (w : Word32) : (sv.measurementStage b w).resume = sv.resume := rfl

@[simp] theorem Service.measurementStage_entryMarker (sv : Service) (b : Bool) (w : Word32) : (sv.measurementStage b w).entryMarker = sv.entryMarker := rfl

@[simp] theorem Service.measurementStage_haltPhase (sv : Service) (b : Bool) (w : Word32) : (sv.measurementStage b w).haltPhase = sv.haltPhase := rfl

@[simp] theorem Service.measurementStage_layout (sv : Service) (b : Bool) (w : Word32) : (sv.measurementStage b w).layout = sv.layout := rfl

@[simp] theorem Service.measurementStage_map (sv : Service) (b : Bool) (w : Word32) : (sv.measurementStage b w).map = sv.map := rfl

@[simp] theorem Service.measurementStage_reserveMapped (sv : Service) (b : Bool) (w : Word32) : (sv.measurementStage b w).reserveMapped = sv.reserveMapped := rfl

@[simp] theorem Service.measurementStage_profile (sv : Service) (b : Bool) (w : Word32) : (sv.measurementStage b w).profile = sv.profile := rfl

@[simp] theorem Service.measurementStage_pendingProfile (sv : Service) (b : Bool) (w : Word32) : (sv.measurementStage b w).pendingProfile = sv.pendingProfile := rfl

@[simp] theorem Service.measurementStage_cost (sv : Service) (b : Bool) (w : Word32) : (sv.measurementStage b w).cost = sv.cost := rfl

@[simp] theorem Service.measurementStage_integ (sv : Service) (b : Bool) (w : Word32) : (sv.measurementStage b w).integ = sv.integ := rfl

@[simp] theorem Service.measurementStage_gain (sv : Service) (b : Bool) (w : Word32) : (sv.measurementStage b w).gain = sv.gain := rfl

@[simp] theorem Service.measurementStage_lim (sv : Service) (b : Bool) (w : Word32) : (sv.measurementStage b w).lim = sv.lim := rfl

@[simp] theorem Service.measurementStage_feeds (sv : Service) (b : Bool) (w : Word32) : (sv.measurementStage b w).feeds = sv.feeds := rfl

/-! ### Integration stage -/

@[simp] theorem Service.integrationStage_lifecycle (sv : Service) (b c : Bool) : (sv.integrationStage b c).lifecycle = sv.lifecycle := rfl

@[simp] theorem Service.integrationStage_resume (sv : Service) (b c : Bool) : (sv.integrationStage b c).resume = sv.resume := rfl

@[simp] theorem Service.integrationStage_entryMarker (sv : Service) (b c : Bool) : (sv.integrationStage b c).entryMarker = sv.entryMarker := rfl

@[simp] theorem Service.integrationStage_haltPhase (sv : Service) (b c : Bool) : (sv.integrationStage b c).haltPhase = sv.haltPhase := rfl

@[simp] theorem Service.integrationStage_layout (sv : Service) (b c : Bool) : (sv.integrationStage b c).layout = sv.layout := rfl

@[simp] theorem Service.integrationStage_map (sv : Service) (b c : Bool) : (sv.integrationStage b c).map = sv.map := rfl

@[simp] theorem Service.integrationStage_reserveMapped (sv : Service) (b c : Bool) : (sv.integrationStage b c).reserveMapped = sv.reserveMapped := rfl

@[simp] theorem Service.integrationStage_profile (sv : Service) (b c : Bool) : (sv.integrationStage b c).profile = sv.profile := rfl

@[simp] theorem Service.integrationStage_pendingProfile (sv : Service) (b c : Bool) : (sv.integrationStage b c).pendingProfile = sv.pendingProfile := rfl

@[simp] theorem Service.integrationStage_cost (sv : Service) (b c : Bool) : (sv.integrationStage b c).cost = sv.cost := rfl

@[simp] theorem Service.integrationStage_meas (sv : Service) (b c : Bool) : (sv.integrationStage b c).meas = sv.meas := rfl

@[simp] theorem Service.integrationStage_gain (sv : Service) (b c : Bool) : (sv.integrationStage b c).gain = sv.gain := rfl

@[simp] theorem Service.integrationStage_lim (sv : Service) (b c : Bool) : (sv.integrationStage b c).lim = sv.lim := rfl

@[simp] theorem Service.integrationStage_feeds (sv : Service) (b c : Bool) : (sv.integrationStage b c).feeds = sv.feeds := rfl

/-! ### Gain stage -/

@[simp] theorem Service.gainStage_lifecycle (sv : Service) (l : Lifecycle) (b : Bool) (g : Int) : (sv.gainStage l b g).lifecycle = sv.lifecycle := rfl

@[simp] theorem Service.gainStage_resume (sv : Service) (l : Lifecycle) (b : Bool) (g : Int) : (sv.gainStage l b g).resume = sv.resume := rfl

@[simp] theorem Service.gainStage_entryMarker (sv : Service) (l : Lifecycle) (b : Bool) (g : Int) : (sv.gainStage l b g).entryMarker = sv.entryMarker := rfl

@[simp] theorem Service.gainStage_haltPhase (sv : Service) (l : Lifecycle) (b : Bool) (g : Int) : (sv.gainStage l b g).haltPhase = sv.haltPhase := rfl

@[simp] theorem Service.gainStage_layout (sv : Service) (l : Lifecycle) (b : Bool) (g : Int) : (sv.gainStage l b g).layout = sv.layout := rfl

@[simp] theorem Service.gainStage_map (sv : Service) (l : Lifecycle) (b : Bool) (g : Int) : (sv.gainStage l b g).map = sv.map := rfl

@[simp] theorem Service.gainStage_reserveMapped (sv : Service) (l : Lifecycle) (b : Bool) (g : Int) : (sv.gainStage l b g).reserveMapped = sv.reserveMapped := rfl

@[simp] theorem Service.gainStage_profile (sv : Service) (l : Lifecycle) (b : Bool) (g : Int) : (sv.gainStage l b g).profile = sv.profile := rfl

@[simp] theorem Service.gainStage_pendingProfile (sv : Service) (l : Lifecycle) (b : Bool) (g : Int) : (sv.gainStage l b g).pendingProfile = sv.pendingProfile := rfl

@[simp] theorem Service.gainStage_cost (sv : Service) (l : Lifecycle) (b : Bool) (g : Int) : (sv.gainStage l b g).cost = sv.cost := rfl

@[simp] theorem Service.gainStage_meas (sv : Service) (l : Lifecycle) (b : Bool) (g : Int) : (sv.gainStage l b g).meas = sv.meas := rfl

@[simp] theorem Service.gainStage_integ (sv : Service) (l : Lifecycle) (b : Bool) (g : Int) : (sv.gainStage l b g).integ = sv.integ := rfl

@[simp] theorem Service.gainStage_lim (sv : Service) (l : Lifecycle) (b : Bool) (g : Int) : (sv.gainStage l b g).lim = sv.lim := rfl

@[simp] theorem Service.gainStage_feeds (sv : Service) (l : Lifecycle) (b : Bool) (g : Int) : (sv.gainStage l b g).feeds = sv.feeds := rfl

/-! ### Limiter stage -/

@[simp] theorem Service.limiterStage_lifecycle (sv : Service) : (sv.limiterStage).lifecycle = sv.lifecycle := rfl

@[simp] theorem Service.limiterStage_resume (sv : Service) : (sv.limiterStage).resume = sv.resume := rfl

@[simp] theorem Service.limiterStage_entryMarker (sv : Service) : (sv.limiterStage).entryMarker = sv.entryMarker := rfl

@[simp] theorem Service.limiterStage_haltPhase (sv : Service) : (sv.limiterStage).haltPhase = sv.haltPhase := rfl

@[simp] theorem Service.limiterStage_layout (sv : Service) : (sv.limiterStage).layout = sv.layout := rfl

@[simp] theorem Service.limiterStage_map (sv : Service) : (sv.limiterStage).map = sv.map := rfl

@[simp] theorem Service.limiterStage_reserveMapped (sv : Service) : (sv.limiterStage).reserveMapped = sv.reserveMapped := rfl

@[simp] theorem Service.limiterStage_profile (sv : Service) : (sv.limiterStage).profile = sv.profile := rfl

@[simp] theorem Service.limiterStage_pendingProfile (sv : Service) : (sv.limiterStage).pendingProfile = sv.pendingProfile := rfl

@[simp] theorem Service.limiterStage_cost (sv : Service) : (sv.limiterStage).cost = sv.cost := rfl

@[simp] theorem Service.limiterStage_meas (sv : Service) : (sv.limiterStage).meas = sv.meas := rfl

@[simp] theorem Service.limiterStage_integ (sv : Service) : (sv.limiterStage).integ = sv.integ := rfl

@[simp] theorem Service.limiterStage_gain (sv : Service) : (sv.limiterStage).gain = sv.gain := rfl

@[simp] theorem Service.limiterStage_feeds (sv : Service) : (sv.limiterStage).feeds = sv.feeds := rfl

/-! ### Monitors at an updating close -/

@[simp] theorem Service.monitorsClosed_lifecycle (sv : Service) (a b : Bool) : (sv.monitorsClosed a b).lifecycle = sv.lifecycle := rfl

@[simp] theorem Service.monitorsClosed_resume (sv : Service) (a b : Bool) : (sv.monitorsClosed a b).resume = sv.resume := rfl

@[simp] theorem Service.monitorsClosed_entryMarker (sv : Service) (a b : Bool) : (sv.monitorsClosed a b).entryMarker = sv.entryMarker := rfl

@[simp] theorem Service.monitorsClosed_haltPhase (sv : Service) (a b : Bool) : (sv.monitorsClosed a b).haltPhase = sv.haltPhase := rfl

@[simp] theorem Service.monitorsClosed_layout (sv : Service) (a b : Bool) : (sv.monitorsClosed a b).layout = sv.layout := rfl

@[simp] theorem Service.monitorsClosed_map (sv : Service) (a b : Bool) : (sv.monitorsClosed a b).map = sv.map := rfl

@[simp] theorem Service.monitorsClosed_reserveMapped (sv : Service) (a b : Bool) : (sv.monitorsClosed a b).reserveMapped = sv.reserveMapped := rfl

@[simp] theorem Service.monitorsClosed_profile (sv : Service) (a b : Bool) : (sv.monitorsClosed a b).profile = sv.profile := rfl

@[simp] theorem Service.monitorsClosed_pendingProfile (sv : Service) (a b : Bool) : (sv.monitorsClosed a b).pendingProfile = sv.pendingProfile := rfl

@[simp] theorem Service.monitorsClosed_cost (sv : Service) (a b : Bool) : (sv.monitorsClosed a b).cost = sv.cost := rfl

@[simp] theorem Service.monitorsClosed_meas (sv : Service) (a b : Bool) : (sv.monitorsClosed a b).meas = sv.meas := rfl

@[simp] theorem Service.monitorsClosed_integ (sv : Service) (a b : Bool) : (sv.monitorsClosed a b).integ = sv.integ := rfl

@[simp] theorem Service.monitorsClosed_gain (sv : Service) (a b : Bool) : (sv.monitorsClosed a b).gain = sv.gain := rfl

@[simp] theorem Service.monitorsClosed_lim (sv : Service) (a b : Bool) : (sv.monitorsClosed a b).lim = sv.lim := rfl

/-! ### Monitors at any other close -/

@[simp] theorem Service.monitorsDiscarded_lifecycle (sv : Service) : (sv.monitorsDiscarded).lifecycle = sv.lifecycle := rfl

@[simp] theorem Service.monitorsDiscarded_resume (sv : Service) : (sv.monitorsDiscarded).resume = sv.resume := rfl

@[simp] theorem Service.monitorsDiscarded_entryMarker (sv : Service) : (sv.monitorsDiscarded).entryMarker = sv.entryMarker := rfl

@[simp] theorem Service.monitorsDiscarded_haltPhase (sv : Service) : (sv.monitorsDiscarded).haltPhase = sv.haltPhase := rfl

@[simp] theorem Service.monitorsDiscarded_layout (sv : Service) : (sv.monitorsDiscarded).layout = sv.layout := rfl

@[simp] theorem Service.monitorsDiscarded_map (sv : Service) : (sv.monitorsDiscarded).map = sv.map := rfl

@[simp] theorem Service.monitorsDiscarded_reserveMapped (sv : Service) : (sv.monitorsDiscarded).reserveMapped = sv.reserveMapped := rfl

@[simp] theorem Service.monitorsDiscarded_profile (sv : Service) : (sv.monitorsDiscarded).profile = sv.profile := rfl

@[simp] theorem Service.monitorsDiscarded_pendingProfile (sv : Service) : (sv.monitorsDiscarded).pendingProfile = sv.pendingProfile := rfl

@[simp] theorem Service.monitorsDiscarded_cost (sv : Service) : (sv.monitorsDiscarded).cost = sv.cost := rfl

@[simp] theorem Service.monitorsDiscarded_meas (sv : Service) : (sv.monitorsDiscarded).meas = sv.meas := rfl

@[simp] theorem Service.monitorsDiscarded_integ (sv : Service) : (sv.monitorsDiscarded).integ = sv.integ := rfl

@[simp] theorem Service.monitorsDiscarded_gain (sv : Service) : (sv.monitorsDiscarded).gain = sv.gain := rfl

@[simp] theorem Service.monitorsDiscarded_lim (sv : Service) : (sv.monitorsDiscarded).lim = sv.lim := rfl

/-! ### Entry to DROPPED -/

@[simp] theorem Service.dropped_entryMarker (sv : Service) (l : Lifecycle) : (sv.dropped l).entryMarker = sv.entryMarker := rfl

@[simp] theorem Service.dropped_haltPhase (sv : Service) (l : Lifecycle) : (sv.dropped l).haltPhase = sv.haltPhase := rfl

@[simp] theorem Service.dropped_layout (sv : Service) (l : Lifecycle) : (sv.dropped l).layout = sv.layout := rfl

@[simp] theorem Service.dropped_map (sv : Service) (l : Lifecycle) : (sv.dropped l).map = sv.map := rfl

@[simp] theorem Service.dropped_reserveMapped (sv : Service) (l : Lifecycle) : (sv.dropped l).reserveMapped = sv.reserveMapped := rfl

@[simp] theorem Service.dropped_profile (sv : Service) (l : Lifecycle) : (sv.dropped l).profile = sv.profile := rfl

@[simp] theorem Service.dropped_pendingProfile (sv : Service) (l : Lifecycle) : (sv.dropped l).pendingProfile = sv.pendingProfile := rfl

@[simp] theorem Service.dropped_cost (sv : Service) (l : Lifecycle) : (sv.dropped l).cost = sv.cost := rfl

@[simp] theorem Service.dropped_meas (sv : Service) (l : Lifecycle) : (sv.dropped l).meas = sv.meas := rfl

@[simp] theorem Service.dropped_integ (sv : Service) (l : Lifecycle) : (sv.dropped l).integ = sv.integ := rfl

@[simp] theorem Service.dropped_gain (sv : Service) (l : Lifecycle) : (sv.dropped l).gain = sv.gain := rfl

@[simp] theorem Service.dropped_feeds (sv : Service) (l : Lifecycle) : (sv.dropped l).feeds = sv.feeds := rfl

/-! ### Resume from DROPPED -/

@[simp] theorem Service.resumed_entryMarker (sv : Service) : (sv.resumed).entryMarker = sv.entryMarker := rfl

@[simp] theorem Service.resumed_haltPhase (sv : Service) : (sv.resumed).haltPhase = sv.haltPhase := rfl

@[simp] theorem Service.resumed_layout (sv : Service) : (sv.resumed).layout = sv.layout := rfl

@[simp] theorem Service.resumed_map (sv : Service) : (sv.resumed).map = sv.map := rfl

@[simp] theorem Service.resumed_reserveMapped (sv : Service) : (sv.resumed).reserveMapped = sv.reserveMapped := rfl

@[simp] theorem Service.resumed_profile (sv : Service) : (sv.resumed).profile = sv.profile := rfl

@[simp] theorem Service.resumed_pendingProfile (sv : Service) : (sv.resumed).pendingProfile = sv.pendingProfile := rfl

@[simp] theorem Service.resumed_cost (sv : Service) : (sv.resumed).cost = sv.cost := rfl

@[simp] theorem Service.resumed_integ (sv : Service) : (sv.resumed).integ = sv.integ := rfl

@[simp] theorem Service.resumed_gain (sv : Service) : (sv.resumed).gain = sv.gain := rfl

@[simp] theorem Service.resumed_feeds (sv : Service) : (sv.resumed).feeds = sv.feeds := rfl

/-! ### Halt closes -/

@[simp] theorem Service.haltStage_resume (sv : Service) : (sv.haltStage).resume = sv.resume := by
  unfold Service.haltStage; split <;> rfl

@[simp] theorem Service.haltStage_entryMarker (sv : Service) : (sv.haltStage).entryMarker = sv.entryMarker := by
  unfold Service.haltStage; split <;> rfl

@[simp] theorem Service.haltStage_layout (sv : Service) : (sv.haltStage).layout = sv.layout := by
  unfold Service.haltStage; split <;> rfl

@[simp] theorem Service.haltStage_map (sv : Service) : (sv.haltStage).map = sv.map := by
  unfold Service.haltStage; split <;> rfl

@[simp] theorem Service.haltStage_reserveMapped (sv : Service) : (sv.haltStage).reserveMapped = sv.reserveMapped := by
  unfold Service.haltStage; split <;> rfl

@[simp] theorem Service.haltStage_profile (sv : Service) : (sv.haltStage).profile = sv.profile := by
  unfold Service.haltStage; split <;> rfl

@[simp] theorem Service.haltStage_pendingProfile (sv : Service) : (sv.haltStage).pendingProfile = sv.pendingProfile := by
  unfold Service.haltStage; split <;> rfl

@[simp] theorem Service.haltStage_cost (sv : Service) : (sv.haltStage).cost = sv.cost := by
  unfold Service.haltStage; split <;> rfl

@[simp] theorem Service.haltStage_meas (sv : Service) : (sv.haltStage).meas = sv.meas := by
  unfold Service.haltStage; split <;> rfl

@[simp] theorem Service.haltStage_integ (sv : Service) : (sv.haltStage).integ = sv.integ := by
  unfold Service.haltStage; split <;> rfl

@[simp] theorem Service.haltStage_gain (sv : Service) : (sv.haltStage).gain = sv.gain := by
  unfold Service.haltStage; split <;> rfl

/-! ### Lifecycle stage -/

@[simp] theorem Service.lifecycleStage_entryMarker (sv : Service) (l : Lifecycle) (b : Bool) (d : FeedDecision) : (sv.lifecycleStage l b d).entryMarker = sv.entryMarker := by
  unfold Service.lifecycleStage; dsimp only; split <;> simp

@[simp] theorem Service.lifecycleStage_layout (sv : Service) (l : Lifecycle) (b : Bool) (d : FeedDecision) : (sv.lifecycleStage l b d).layout = sv.layout := by
  unfold Service.lifecycleStage; dsimp only; split <;> simp

@[simp] theorem Service.lifecycleStage_map (sv : Service) (l : Lifecycle) (b : Bool) (d : FeedDecision) : (sv.lifecycleStage l b d).map = sv.map := by
  unfold Service.lifecycleStage; dsimp only; split <;> simp

@[simp] theorem Service.lifecycleStage_reserveMapped (sv : Service) (l : Lifecycle) (b : Bool) (d : FeedDecision) : (sv.lifecycleStage l b d).reserveMapped = sv.reserveMapped := by
  unfold Service.lifecycleStage; dsimp only; split <;> simp

@[simp] theorem Service.lifecycleStage_profile (sv : Service) (l : Lifecycle) (b : Bool) (d : FeedDecision) : (sv.lifecycleStage l b d).profile = sv.profile := by
  unfold Service.lifecycleStage; dsimp only; split <;> simp

@[simp] theorem Service.lifecycleStage_pendingProfile (sv : Service) (l : Lifecycle) (b : Bool) (d : FeedDecision) : (sv.lifecycleStage l b d).pendingProfile = sv.pendingProfile := by
  unfold Service.lifecycleStage; dsimp only; split <;> simp

@[simp] theorem Service.lifecycleStage_cost (sv : Service) (l : Lifecycle) (b : Bool) (d : FeedDecision) : (sv.lifecycleStage l b d).cost = sv.cost := by
  unfold Service.lifecycleStage; dsimp only; split <;> simp

@[simp] theorem Service.lifecycleStage_integ (sv : Service) (l : Lifecycle) (b : Bool) (d : FeedDecision) : (sv.lifecycleStage l b d).integ = sv.integ := by
  unfold Service.lifecycleStage; dsimp only; split <;> simp

@[simp] theorem Service.lifecycleStage_gain (sv : Service) (l : Lifecycle) (b : Bool) (d : FeedDecision) : (sv.lifecycleStage l b d).gain = sv.gain := by
  unfold Service.lifecycleStage; dsimp only; split <;> simp

/-! ### Start -/

@[simp] theorem Service.started_layout (sv : Service) (b : Bool) : (sv.started b).layout = sv.layout := rfl

@[simp] theorem Service.started_map (sv : Service) (b : Bool) : (sv.started b).map = sv.map := rfl

@[simp] theorem Service.started_reserveMapped (sv : Service) (b : Bool) : (sv.started b).reserveMapped = sv.reserveMapped := rfl

@[simp] theorem Service.started_profile (sv : Service) (b : Bool) : (sv.started b).profile = sv.profile := rfl

@[simp] theorem Service.started_pendingProfile (sv : Service) (b : Bool) : (sv.started b).pendingProfile = sv.pendingProfile := rfl

@[simp] theorem Service.started_cost (sv : Service) (b : Bool) : (sv.started b).cost = sv.cost := rfl

/-! ### Reset with KEEP -/

@[simp] theorem Service.afterReset_layout (sv : Service) : (sv.afterReset).layout = sv.layout := rfl

@[simp] theorem Service.afterReset_map (sv : Service) : (sv.afterReset).map = sv.map := rfl

@[simp] theorem Service.afterReset_reserveMapped (sv : Service) : (sv.afterReset).reserveMapped = sv.reserveMapped := rfl

@[simp] theorem Service.afterReset_profile (sv : Service) : (sv.afterReset).profile = sv.profile := rfl

@[simp] theorem Service.afterReset_cost (sv : Service) : (sv.afterReset).cost = sv.cost := rfl

/-! ### Map -/

@[simp] theorem Service.mapped_resume (sv : Service) (l : Layout) (chs : List ChannelMap) : (sv.mapped l chs).resume = sv.resume := rfl

@[simp] theorem Service.mapped_entryMarker (sv : Service) (l : Layout) (chs : List ChannelMap) : (sv.mapped l chs).entryMarker = sv.entryMarker := rfl

@[simp] theorem Service.mapped_haltPhase (sv : Service) (l : Layout) (chs : List ChannelMap) : (sv.mapped l chs).haltPhase = sv.haltPhase := rfl

@[simp] theorem Service.mapped_profile (sv : Service) (l : Layout) (chs : List ChannelMap) : (sv.mapped l chs).profile = sv.profile := rfl

@[simp] theorem Service.mapped_pendingProfile (sv : Service) (l : Layout) (chs : List ChannelMap) : (sv.mapped l chs).pendingProfile = sv.pendingProfile := rfl

@[simp] theorem Service.mapped_gain (sv : Service) (l : Layout) (chs : List ChannelMap) : (sv.mapped l chs).gain = sv.gain := rfl

/-! ### Unmap -/

@[simp] theorem Service.unmapped_resume (sv : Service) : (sv.unmapped).resume = sv.resume := rfl

@[simp] theorem Service.unmapped_entryMarker (sv : Service) : (sv.unmapped).entryMarker = sv.entryMarker := rfl

@[simp] theorem Service.unmapped_haltPhase (sv : Service) : (sv.unmapped).haltPhase = sv.haltPhase := rfl

@[simp] theorem Service.unmapped_profile (sv : Service) : (sv.unmapped).profile = sv.profile := rfl

@[simp] theorem Service.unmapped_pendingProfile (sv : Service) : (sv.unmapped).pendingProfile = sv.pendingProfile := rfl

@[simp] theorem Service.unmapped_integ (sv : Service) : (sv.unmapped).integ = sv.integ := rfl

@[simp] theorem Service.unmapped_gain (sv : Service) : (sv.unmapped).gain = sv.gain := rfl

/-! ### Mark -/

@[simp] theorem Service.marked_lifecycle (sv : Service) (b : Bool) : (sv.marked b).lifecycle = sv.lifecycle := rfl

@[simp] theorem Service.marked_resume (sv : Service) (b : Bool) : (sv.marked b).resume = sv.resume := rfl

@[simp] theorem Service.marked_entryMarker (sv : Service) (b : Bool) : (sv.marked b).entryMarker = sv.entryMarker := rfl

@[simp] theorem Service.marked_haltPhase (sv : Service) (b : Bool) : (sv.marked b).haltPhase = sv.haltPhase := rfl

@[simp] theorem Service.marked_layout (sv : Service) (b : Bool) : (sv.marked b).layout = sv.layout := rfl

@[simp] theorem Service.marked_map (sv : Service) (b : Bool) : (sv.marked b).map = sv.map := rfl

@[simp] theorem Service.marked_reserveMapped (sv : Service) (b : Bool) : (sv.marked b).reserveMapped = sv.reserveMapped := rfl

@[simp] theorem Service.marked_profile (sv : Service) (b : Bool) : (sv.marked b).profile = sv.profile := rfl

@[simp] theorem Service.marked_pendingProfile (sv : Service) (b : Bool) : (sv.marked b).pendingProfile = sv.pendingProfile := rfl

@[simp] theorem Service.marked_cost (sv : Service) (b : Bool) : (sv.marked b).cost = sv.cost := rfl

@[simp] theorem Service.marked_meas (sv : Service) (b : Bool) : (sv.marked b).meas = sv.meas := rfl

@[simp] theorem Service.marked_lim (sv : Service) (b : Bool) : (sv.marked b).lim = sv.lim := rfl

@[simp] theorem Service.marked_feeds (sv : Service) (b : Bool) : (sv.marked b).feeds = sv.feeds := rfl

/-! ### Mark with RESTART -/

@[simp] theorem Service.restarted_entryMarker (sv : Service) : (sv.restarted).entryMarker = sv.entryMarker := rfl

@[simp] theorem Service.restarted_haltPhase (sv : Service) : (sv.restarted).haltPhase = sv.haltPhase := rfl

@[simp] theorem Service.restarted_layout (sv : Service) : (sv.restarted).layout = sv.layout := rfl

@[simp] theorem Service.restarted_map (sv : Service) : (sv.restarted).map = sv.map := rfl

@[simp] theorem Service.restarted_reserveMapped (sv : Service) : (sv.restarted).reserveMapped = sv.reserveMapped := rfl

@[simp] theorem Service.restarted_profile (sv : Service) : (sv.restarted).profile = sv.profile := rfl

@[simp] theorem Service.restarted_pendingProfile (sv : Service) : (sv.restarted).pendingProfile = sv.pendingProfile := rfl

@[simp] theorem Service.restarted_cost (sv : Service) : (sv.restarted).cost = sv.cost := rfl

@[simp] theorem Service.restarted_integ (sv : Service) : (sv.restarted).integ = sv.integ := rfl

@[simp] theorem Service.restarted_gain (sv : Service) : (sv.restarted).gain = sv.gain := rfl

@[simp] theorem Service.restarted_lim (sv : Service) : (sv.restarted).lim = sv.lim := rfl

@[simp] theorem Service.restarted_feeds (sv : Service) : (sv.restarted).feeds = sv.feeds := rfl

/-! ### Profile at once -/

@[simp] theorem Service.profiledAtOnce_lifecycle (sv : Service) (p : Profile) : (sv.profiledAtOnce p).lifecycle = sv.lifecycle := rfl

@[simp] theorem Service.profiledAtOnce_resume (sv : Service) (p : Profile) : (sv.profiledAtOnce p).resume = sv.resume := rfl

@[simp] theorem Service.profiledAtOnce_entryMarker (sv : Service) (p : Profile) : (sv.profiledAtOnce p).entryMarker = sv.entryMarker := rfl

@[simp] theorem Service.profiledAtOnce_haltPhase (sv : Service) (p : Profile) : (sv.profiledAtOnce p).haltPhase = sv.haltPhase := rfl

@[simp] theorem Service.profiledAtOnce_layout (sv : Service) (p : Profile) : (sv.profiledAtOnce p).layout = sv.layout := rfl

@[simp] theorem Service.profiledAtOnce_map (sv : Service) (p : Profile) : (sv.profiledAtOnce p).map = sv.map := rfl

@[simp] theorem Service.profiledAtOnce_reserveMapped (sv : Service) (p : Profile) : (sv.profiledAtOnce p).reserveMapped = sv.reserveMapped := rfl

@[simp] theorem Service.profiledAtOnce_pendingProfile (sv : Service) (p : Profile) : (sv.profiledAtOnce p).pendingProfile = sv.pendingProfile := rfl

@[simp] theorem Service.profiledAtOnce_cost (sv : Service) (p : Profile) : (sv.profiledAtOnce p).cost = sv.cost := rfl

@[simp] theorem Service.profiledAtOnce_meas (sv : Service) (p : Profile) : (sv.profiledAtOnce p).meas = sv.meas := rfl

@[simp] theorem Service.profiledAtOnce_integ (sv : Service) (p : Profile) : (sv.profiledAtOnce p).integ = sv.integ := rfl

@[simp] theorem Service.profiledAtOnce_lim (sv : Service) (p : Profile) : (sv.profiledAtOnce p).lim = sv.lim := rfl

@[simp] theorem Service.profiledAtOnce_feeds (sv : Service) (p : Profile) : (sv.profiledAtOnce p).feeds = sv.feeds := rfl

/-! ### Fast path -/

@[simp] theorem Service.fastPath_lifecycle (sv : Service) (i : Nat) (a b : Slots) : ((sv.fastPath i a b).1).lifecycle = sv.lifecycle := rfl

@[simp] theorem Service.fastPath_resume (sv : Service) (i : Nat) (a b : Slots) : ((sv.fastPath i a b).1).resume = sv.resume := rfl

@[simp] theorem Service.fastPath_entryMarker (sv : Service) (i : Nat) (a b : Slots) : ((sv.fastPath i a b).1).entryMarker = sv.entryMarker := rfl

@[simp] theorem Service.fastPath_haltPhase (sv : Service) (i : Nat) (a b : Slots) : ((sv.fastPath i a b).1).haltPhase = sv.haltPhase := rfl

@[simp] theorem Service.fastPath_layout (sv : Service) (i : Nat) (a b : Slots) : ((sv.fastPath i a b).1).layout = sv.layout := rfl

@[simp] theorem Service.fastPath_map (sv : Service) (i : Nat) (a b : Slots) : ((sv.fastPath i a b).1).map = sv.map := rfl

@[simp] theorem Service.fastPath_reserveMapped (sv : Service) (i : Nat) (a b : Slots) : ((sv.fastPath i a b).1).reserveMapped = sv.reserveMapped := rfl

@[simp] theorem Service.fastPath_profile (sv : Service) (i : Nat) (a b : Slots) : ((sv.fastPath i a b).1).profile = sv.profile := rfl

@[simp] theorem Service.fastPath_pendingProfile (sv : Service) (i : Nat) (a b : Slots) : ((sv.fastPath i a b).1).pendingProfile = sv.pendingProfile := rfl

@[simp] theorem Service.fastPath_cost (sv : Service) (i : Nat) (a b : Slots) : ((sv.fastPath i a b).1).cost = sv.cost := rfl

@[simp] theorem Service.fastPath_integ (sv : Service) (i : Nat) (a b : Slots) : ((sv.fastPath i a b).1).integ = sv.integ := rfl

@[simp] theorem Service.fastPath_gain (sv : Service) (i : Nat) (a b : Slots) : ((sv.fastPath i a b).1).gain = sv.gain := rfl

/-! ### One frame -/

@[simp] theorem Service.atFrame_lifecycle (sv : Service) (i : Nat) (a b : Slots) : ((sv.atFrame i a b).1).lifecycle = sv.lifecycle := by
  unfold Service.atFrame; split <;> rfl

@[simp] theorem Service.atFrame_resume (sv : Service) (i : Nat) (a b : Slots) : ((sv.atFrame i a b).1).resume = sv.resume := by
  unfold Service.atFrame; split <;> rfl

@[simp] theorem Service.atFrame_entryMarker (sv : Service) (i : Nat) (a b : Slots) : ((sv.atFrame i a b).1).entryMarker = sv.entryMarker := by
  unfold Service.atFrame; split <;> rfl

@[simp] theorem Service.atFrame_haltPhase (sv : Service) (i : Nat) (a b : Slots) : ((sv.atFrame i a b).1).haltPhase = sv.haltPhase := by
  unfold Service.atFrame; split <;> rfl

@[simp] theorem Service.atFrame_layout (sv : Service) (i : Nat) (a b : Slots) : ((sv.atFrame i a b).1).layout = sv.layout := by
  unfold Service.atFrame; split <;> rfl

@[simp] theorem Service.atFrame_map (sv : Service) (i : Nat) (a b : Slots) : ((sv.atFrame i a b).1).map = sv.map := by
  unfold Service.atFrame; split <;> rfl

@[simp] theorem Service.atFrame_reserveMapped (sv : Service) (i : Nat) (a b : Slots) : ((sv.atFrame i a b).1).reserveMapped = sv.reserveMapped := by
  unfold Service.atFrame; split <;> rfl

@[simp] theorem Service.atFrame_profile (sv : Service) (i : Nat) (a b : Slots) : ((sv.atFrame i a b).1).profile = sv.profile := by
  unfold Service.atFrame; split <;> rfl

@[simp] theorem Service.atFrame_pendingProfile (sv : Service) (i : Nat) (a b : Slots) : ((sv.atFrame i a b).1).pendingProfile = sv.pendingProfile := by
  unfold Service.atFrame; split <;> rfl

@[simp] theorem Service.atFrame_cost (sv : Service) (i : Nat) (a b : Slots) : ((sv.atFrame i a b).1).cost = sv.cost := by
  unfold Service.atFrame; split <;> rfl

@[simp] theorem Service.atFrame_integ (sv : Service) (i : Nat) (a b : Slots) : ((sv.atFrame i a b).1).integ = sv.integ := by
  unfold Service.atFrame; split <;> rfl

@[simp] theorem Service.atFrame_gain (sv : Service) (i : Nat) (a b : Slots) : ((sv.atFrame i a b).1).gain = sv.gain := by
  unfold Service.atFrame; split <;> rfl

/-! ### The whole close -/

@[simp] theorem Service.close_layout (sv : Service) (a b : Bool) (w : Word32) :
    (sv.close a b w).service.layout = sv.layout := by
  simp only [Service.close]; split <;> simp

@[simp] theorem Service.close_map (sv : Service) (a b : Bool) (w : Word32) :
    (sv.close a b w).service.map = sv.map := by
  simp only [Service.close]; split <;> simp

@[simp] theorem Service.close_reserveMapped (sv : Service) (a b : Bool) (w : Word32) :
    (sv.close a b w).service.reserveMapped = sv.reserveMapped := by
  simp only [Service.close]; split <;> simp

@[simp] theorem Service.close_cost (sv : Service) (a b : Bool) (w : Word32) :
    (sv.close a b w).service.cost = sv.cost := by
  simp only [Service.close]; split <;> simp

@[simp] theorem Service.close_entryMarker (sv : Service) (a b : Bool) (w : Word32) :
    (sv.close a b w).service.entryMarker = false := rfl

@[simp] theorem Service.close_profile (sv : Service) (a b : Bool) (w : Word32) :
    (sv.close a b w).service.profile = sv.pendingProfile.getD sv.profile := by
  simp only [Service.close]; split <;> simp

@[simp] theorem Service.close_pendingProfile (sv : Service) (a b : Bool) (w : Word32) :
    (sv.close a b w).service.pendingProfile = none := by
  simp only [Service.close]; split <;> simp

end Sys2Proof.Machine
end

