-- ==== Sys2Proof/Laws/Close.lean ====
section
/-! SUPPORT. What the whole close of a service leaves of each unit, and which kinds each of its raises has. -/

namespace Sys2Proof.Machine

/-! ### Lifecycle stage -/

@[simp] theorem Service.haltStage_inUse (sv : Service) : sv.haltStage.feeds.inUse = sv.feeds.inUse := by
  unfold Service.haltStage; split <;> rfl

@[simp] theorem Service.haltStage_mode (sv : Service) : sv.haltStage.feeds.mode = sv.feeds.mode := by
  unfold Service.haltStage; split <;> rfl

@[simp] theorem Service.haltStage_mainMonitor (sv : Service) :
    sv.haltStage.feeds.mainMonitor = sv.feeds.mainMonitor := by
  unfold Service.haltStage; split <;> rfl

@[simp] theorem Service.haltStage_reserveMonitor (sv : Service) :
    sv.haltStage.feeds.reserveMonitor = sv.feeds.reserveMonitor := by
  unfold Service.haltStage; split <;> rfl

theorem Service.haltStage_lim (sv : Service) :
    sv.haltStage.lim = { sv.lim with pendingFade := sv.haltStage.lim.pendingFade } := by
  unfold Service.haltStage; split <;> rfl

/-- The limiter keeps its counts, its fade and its readings whatever the lifecycle stage does. -/
theorem Service.lifecycleStage_lim (sv : Service) (l : Lifecycle) (b : Bool) (d : FeedDecision) :
    (sv.lifecycleStage l b d).lim =
      { sv.lim with
        queue := (sv.lifecycleStage l b d).lim.queue
        lastGain := (sv.lifecycleStage l b d).lim.lastGain
        pendingFade := (sv.lifecycleStage l b d).lim.pendingFade } := by
  unfold Service.lifecycleStage; dsimp only; split
  · unfold Service.haltStage; split <;> rfl
  all_goals rfl

/-- Outside HALTING the lifecycle stage leaves the feeds alone. -/
theorem Service.lifecycleStage_feeds (sv : Service) (l : Lifecycle) (b : Bool) (d : FeedDecision) (h : l ≠ .halting) :
    (sv.lifecycleStage l b d).feeds = sv.feeds := by
  unfold Service.lifecycleStage; dsimp only; split
  · exact absurd rfl h
  all_goals rfl

@[simp] theorem Service.lifecycleStage_inUse (sv : Service) (l : Lifecycle) (b : Bool) (d : FeedDecision) :
    (sv.lifecycleStage l b d).feeds.inUse = sv.feeds.inUse := by
  unfold Service.lifecycleStage; dsimp only; split <;> simp

@[simp] theorem Service.lifecycleStage_mode (sv : Service) (l : Lifecycle) (b : Bool) (d : FeedDecision) :
    (sv.lifecycleStage l b d).feeds.mode = sv.feeds.mode := by
  unfold Service.lifecycleStage; dsimp only; split <;> simp

@[simp] theorem Service.lifecycleStage_mainMonitor (sv : Service) (l : Lifecycle) (b : Bool) (d : FeedDecision) :
    (sv.lifecycleStage l b d).feeds.mainMonitor = sv.feeds.mainMonitor := by
  unfold Service.lifecycleStage; dsimp only; split <;> simp

@[simp] theorem Service.lifecycleStage_reserveMonitor (sv : Service) (l : Lifecycle) (b : Bool) (d : FeedDecision) :
    (sv.lifecycleStage l b d).feeds.reserveMonitor = sv.feeds.reserveMonitor := by
  unfold Service.lifecycleStage; dsimp only; split <;> simp

@[simp] theorem Feeds.decided_mode (f : Feeds) (d : FeedDecision) : (f.decided d).mode = f.mode := by
  cases d <;> rfl

@[simp] theorem Feeds.decided_mainMonitor (f : Feeds) (d : FeedDecision) :
    (f.decided d).mainMonitor = f.mainMonitor := by
  cases d <;> rfl

@[simp] theorem Feeds.decided_reserveMonitor (f : Feeds) (d : FeedDecision) :
    (f.decided d).reserveMonitor = f.reserveMonitor := by
  cases d <;> rfl

/-! ### Units after the whole close -/

/-- Whether a close appends to the ring (R64). -/
theorem Service.close_integ (sv : Service) (a b : Bool) (w : Word32) :
    (sv.close a b w).service.integ =
      ((sv.profileStage.measurementStage (sv.lifecycle.measuring && !sv.entryMarker) w).integrationStage
        (sv.lifecycle.measuring && !sv.entryMarker)
        ((sv.lifecycle.measuring || sv.lifecycle == .dropped) && !sv.entryMarker)).integ := by
  simp only [Service.close]; split <;> simp

theorem Service.close_gain (sv : Service) (a b : Bool) (w : Word32) :
    (sv.close a b w).service.gain =
      (((sv.profileStage.measurementStage (sv.lifecycle.measuring && !sv.entryMarker) w).integrationStage
        (sv.lifecycle.measuring && !sv.entryMarker)
        ((sv.lifecycle.measuring || sv.lifecycle == .dropped) && !sv.entryMarker)).gainStage sv.lifecycle
          sv.entryMarker sv.gain.g).gain := by
  simp only [Service.close]; split <;> simp

/-- The reporting values and the fade of the limiter after a close (R134). -/
theorem Service.close_lim (sv : Service) (a b : Bool) (w : Word32) :
    (sv.close a b w).service.lim =
      { sv.lim with
        queue := (sv.close a b w).service.lim.queue
        lastGain := (sv.close a b w).service.lim.lastGain
        pendingFade := (sv.close a b w).service.lim.pendingFade
        subMin := Config.unity
        lastSubMin := sv.lim.subMin
        clips := 0
        lastClips := sv.lim.clips } := by
  simp only [Service.close]
  rw [Service.lifecycleStage_lim]
  split <;> simp [Service.limiterStage]

/-- A close that appends leaves the measurement unit as the measurement stage left it (R64). -/
theorem Service.close_meas_of_measuring (sv : Service) (a b : Bool) (w : Word32) (h : sv.lifecycle.measuring = true)
    (he : sv.entryMarker = false) :
    (sv.close a b w).service.meas = sv.meas.appended sv.profileStage.power w := by
  have hx : ∀ (x : Service) l c d, l ≠ .dropped → (∀ f q, d ≠ .resume f q) →
      (x.lifecycleStage l c d).meas = x.meas := by
    intro x l c d h1 h2
    unfold Service.lifecycleStage; dsimp only; split
    · unfold Service.haltStage; split <;> rfl
    · rfl
    · exact absurd rfl (h2 _ _)
    · rfl
  simp only [Service.close, h, he]
  simp only [Bool.not_false, Bool.and_true, Bool.true_or]
  rw [hx]
  · simp [Service.measurementStage]
  · intro hd; rw [hd] at h; simp [Lifecycle.measuring] at h
  · intro f q
    simp only [if_true, Service.feedDecision]
    cases hl : sv.lifecycle <;> simp [hl, Lifecycle.measuring] at h ⊢ <;> split <;>
      simp only [decideAuto, decideForced] <;> (repeat' split) <;> simp

/-! ### Raises of a close -/

theorem kind_of_mem_stateNotice {l : Lifecycle} {sv : Service} {d : Detail} (h : d ∈ stateNotice l sv) :
    d.kind = .state := by
  unfold stateNotice at h; split at h <;> simp at h; subst h; rfl

theorem kind_of_mem_feedNotice {f : Feed} {x : FeedDecision} {d : Detail} (h : d ∈ feedNotice f x) :
    d.kind = .feed := by
  cases x <;> simp only [feedNotice] at h
  · simp at h
  · simp at h; subst h; rfl
  all_goals split at h <;> simp at h; subst h; rfl

theorem kind_of_mem_deviationNotice {b : Bool} {sv : Service} {d : Detail} (h : d ∈ deviationNotice b sv) :
    d.kind = .deviation := by
  unfold deviationNotice at h; split at h <;> simp at h; subst h; rfl

theorem kind_of_mem_limiterNotices {sv : Service} {d : Detail} (h : d ∈ limiterNotices sv) :
    d.kind = .limit ∨ d.kind = .clip := by
  unfold limiterNotices at h
  rcases List.mem_append.mp h with h | h <;> split at h <;> simp at h <;> subst h <;> simp [Detail.kind]

theorem filter_kind_eq_self {ds : List Detail} {k : NoticeKind} (h : ∀ d ∈ ds, d.kind = k) :
    ds.filter (fun d => d.kind == k) = ds :=
  List.filter_eq_self.mpr fun d hd => by simp [h d hd]

theorem filter_kind_eq_nil {ds : List Detail} {k : NoticeKind} (h : ∀ d ∈ ds, d.kind ≠ k) :
    ds.filter (fun d => d.kind == k) = [] :=
  List.filter_eq_nil_iff.mpr fun d hd => by simp [h d hd]

end Sys2Proof.Machine
end

