-- ==== Sys2Proof/Laws/State.lean ====
section
/-! SUPPORT. One lemma for each field that an update of the state leaves alone, and what reading gives after writing. -/

namespace Sys2Proof.Machine

/-! ### Receivers and services -/

@[simp] theorem State.receiver_setReceiver_same (s : State) (p : Port) (r : Receiver) :
    (s.setReceiver p r).receiver p = r := by
  cases p <;> rfl

theorem State.receiver_setReceiver_other (s : State) {p q : Port} (r : Receiver) (h : q ≠ p) :
    (s.setReceiver p r).receiver q = s.receiver q := by
  cases p <;> cases q <;> first | rfl | exact absurd rfl h

@[simp] theorem State.service_setService_same (s : State) (n : ServiceIndex) (sv : Service) :
    (s.setService n sv).service n = sv := by
  exact Vector.getElem_set_self (i := n.val) n.isLt

theorem State.service_setService_other (s : State) {n m : ServiceIndex} (sv : Service) (h : m ≠ n) :
    (s.setService n sv).service m = s.service m := by
  have : (n : Nat) ≠ m := fun e => h (Fin.ext e.symm)
  simp only [State.setService, State.service]
  exact Vector.getElem_set_ne (hi := n.isLt) (hj := m.isLt) this

theorem State.service_setService (s : State) (n m : ServiceIndex) (sv : Service) :
    (s.setService n sv).service m = if m = n then sv else s.service m := by
  split
  · next h => subst h; simp
  · next h => exact State.service_setService_other s sv h

theorem State.service_ofFn (s : State) (f : ServiceIndex → Service) (n : ServiceIndex) :
    State.service { s with services := Vector.ofFn f } n = f n := by
  show (Vector.ofFn f)[n.val] = f n
  simp

/-! ### Writing a receiver -/

@[simp] theorem State.setReceiver_pending (s : State) (p : Port) (r : Receiver) : (s.setReceiver p r).pending = s.pending := by
  cases p <;> rfl

@[simp] theorem State.setReceiver_pins (s : State) (p : Port) (r : Receiver) : (s.setReceiver p r).pins = s.pins := by
  cases p <;> rfl

@[simp] theorem State.setReceiver_rate (s : State) (p : Port) (r : Receiver) : (s.setReceiver p r).rate = s.rate := by
  cases p <;> rfl

@[simp] theorem State.setReceiver_resetCause (s : State) (p : Port) (r : Receiver) : (s.setReceiver p r).resetCause = s.resetCause := by
  cases p <;> rfl

@[simp] theorem State.setReceiver_clock (s : State) (p : Port) (r : Receiver) : (s.setReceiver p r).clock = s.clock := by
  cases p <;> rfl

@[simp] theorem State.setReceiver_frame (s : State) (p : Port) (r : Receiver) : (s.setReceiver p r).frame = s.frame := by
  cases p <;> rfl

@[simp] theorem State.setReceiver_subblock (s : State) (p : Port) (r : Receiver) : (s.setReceiver p r).subblock = s.subblock := by
  cases p <;> rfl

@[simp] theorem State.setReceiver_tableA (s : State) (p : Port) (r : Receiver) : (s.setReceiver p r).tableA = s.tableA := by
  cases p <;> rfl

@[simp] theorem State.setReceiver_tableB (s : State) (p : Port) (r : Receiver) : (s.setReceiver p r).tableB = s.tableB := by
  cases p <;> rfl

@[simp] theorem State.setReceiver_tableOut (s : State) (p : Port) (r : Receiver) : (s.setReceiver p r).tableOut = s.tableOut := by
  cases p <;> rfl

@[simp] theorem State.setReceiver_services (s : State) (p : Port) (r : Receiver) : (s.setReceiver p r).services = s.services := by
  cases p <;> rfl

@[simp] theorem State.setReceiver_committed (s : State) (p : Port) (r : Receiver) : (s.setReceiver p r).committed = s.committed := by
  cases p <;> rfl

@[simp] theorem State.setReceiver_output (s : State) (p : Port) (r : Receiver) : (s.setReceiver p r).output = s.output := by
  cases p <;> rfl

@[simp] theorem State.setReceiver_control (s : State) (p : Port) (r : Receiver) : (s.setReceiver p r).control = s.control := by
  cases p <;> rfl

@[simp] theorem State.setReceiver_notices (s : State) (p : Port) (r : Receiver) : (s.setReceiver p r).notices = s.notices := by
  cases p <;> rfl

@[simp] theorem State.setReceiver_flash (s : State) (p : Port) (r : Receiver) : (s.setReceiver p r).flash = s.flash := by
  cases p <;> rfl

@[simp] theorem State.setReceiver_storeStatus (s : State) (p : Port) (r : Receiver) : (s.setReceiver p r).storeStatus = s.storeStatus := by
  cases p <;> rfl

/-! ### Writing a service -/

@[simp] theorem State.setService_pending (s : State) (n : ServiceIndex) (sv : Service) : (s.setService n sv).pending = s.pending := rfl

@[simp] theorem State.setService_pins (s : State) (n : ServiceIndex) (sv : Service) : (s.setService n sv).pins = s.pins := rfl

@[simp] theorem State.setService_rate (s : State) (n : ServiceIndex) (sv : Service) : (s.setService n sv).rate = s.rate := rfl

@[simp] theorem State.setService_resetCause (s : State) (n : ServiceIndex) (sv : Service) : (s.setService n sv).resetCause = s.resetCause := rfl

@[simp] theorem State.setService_clock (s : State) (n : ServiceIndex) (sv : Service) : (s.setService n sv).clock = s.clock := rfl

@[simp] theorem State.setService_frame (s : State) (n : ServiceIndex) (sv : Service) : (s.setService n sv).frame = s.frame := rfl

@[simp] theorem State.setService_subblock (s : State) (n : ServiceIndex) (sv : Service) : (s.setService n sv).subblock = s.subblock := rfl

@[simp] theorem State.setService_portA (s : State) (n : ServiceIndex) (sv : Service) : (s.setService n sv).portA = s.portA := rfl

@[simp] theorem State.setService_portB (s : State) (n : ServiceIndex) (sv : Service) : (s.setService n sv).portB = s.portB := rfl

@[simp] theorem State.setService_tableA (s : State) (n : ServiceIndex) (sv : Service) : (s.setService n sv).tableA = s.tableA := rfl

@[simp] theorem State.setService_tableB (s : State) (n : ServiceIndex) (sv : Service) : (s.setService n sv).tableB = s.tableB := rfl

@[simp] theorem State.setService_tableOut (s : State) (n : ServiceIndex) (sv : Service) : (s.setService n sv).tableOut = s.tableOut := rfl

@[simp] theorem State.setService_committed (s : State) (n : ServiceIndex) (sv : Service) : (s.setService n sv).committed = s.committed := rfl

@[simp] theorem State.setService_output (s : State) (n : ServiceIndex) (sv : Service) : (s.setService n sv).output = s.output := rfl

@[simp] theorem State.setService_control (s : State) (n : ServiceIndex) (sv : Service) : (s.setService n sv).control = s.control := rfl

@[simp] theorem State.setService_notices (s : State) (n : ServiceIndex) (sv : Service) : (s.setService n sv).notices = s.notices := rfl

@[simp] theorem State.setService_flash (s : State) (n : ServiceIndex) (sv : Service) : (s.setService n sv).flash = s.flash := rfl

@[simp] theorem State.setService_storeStatus (s : State) (n : ServiceIndex) (sv : Service) : (s.setService n sv).storeStatus = s.storeStatus := rfl

/-! ### Slot tables -/

@[simp] theorem State.remapped_pending (s : State) (n : ServiceIndex) (chs : List ChannelMap) : (s.remapped n chs).pending = s.pending := rfl

@[simp] theorem State.remapped_pins (s : State) (n : ServiceIndex) (chs : List ChannelMap) : (s.remapped n chs).pins = s.pins := rfl

@[simp] theorem State.remapped_rate (s : State) (n : ServiceIndex) (chs : List ChannelMap) : (s.remapped n chs).rate = s.rate := rfl

@[simp] theorem State.remapped_resetCause (s : State) (n : ServiceIndex) (chs : List ChannelMap) : (s.remapped n chs).resetCause = s.resetCause := rfl

@[simp] theorem State.remapped_clock (s : State) (n : ServiceIndex) (chs : List ChannelMap) : (s.remapped n chs).clock = s.clock := rfl

@[simp] theorem State.remapped_frame (s : State) (n : ServiceIndex) (chs : List ChannelMap) : (s.remapped n chs).frame = s.frame := rfl

@[simp] theorem State.remapped_subblock (s : State) (n : ServiceIndex) (chs : List ChannelMap) : (s.remapped n chs).subblock = s.subblock := rfl

@[simp] theorem State.remapped_portA (s : State) (n : ServiceIndex) (chs : List ChannelMap) : (s.remapped n chs).portA = s.portA := rfl

@[simp] theorem State.remapped_portB (s : State) (n : ServiceIndex) (chs : List ChannelMap) : (s.remapped n chs).portB = s.portB := rfl

@[simp] theorem State.remapped_services (s : State) (n : ServiceIndex) (chs : List ChannelMap) : (s.remapped n chs).services = s.services := rfl

@[simp] theorem State.remapped_committed (s : State) (n : ServiceIndex) (chs : List ChannelMap) : (s.remapped n chs).committed = s.committed := rfl

@[simp] theorem State.remapped_output (s : State) (n : ServiceIndex) (chs : List ChannelMap) : (s.remapped n chs).output = s.output := rfl

@[simp] theorem State.remapped_control (s : State) (n : ServiceIndex) (chs : List ChannelMap) : (s.remapped n chs).control = s.control := rfl

@[simp] theorem State.remapped_notices (s : State) (n : ServiceIndex) (chs : List ChannelMap) : (s.remapped n chs).notices = s.notices := rfl

@[simp] theorem State.remapped_flash (s : State) (n : ServiceIndex) (chs : List ChannelMap) : (s.remapped n chs).flash = s.flash := rfl

@[simp] theorem State.remapped_storeStatus (s : State) (n : ServiceIndex) (chs : List ChannelMap) : (s.remapped n chs).storeStatus = s.storeStatus := rfl

/-! ### A raise -/

@[simp] theorem State.raise_pending (s : State) (o : Origin) (d : Detail) : (s.raise o d).pending = s.pending := rfl

@[simp] theorem State.raise_pins (s : State) (o : Origin) (d : Detail) : (s.raise o d).pins = s.pins := rfl

@[simp] theorem State.raise_rate (s : State) (o : Origin) (d : Detail) : (s.raise o d).rate = s.rate := rfl

@[simp] theorem State.raise_resetCause (s : State) (o : Origin) (d : Detail) : (s.raise o d).resetCause = s.resetCause := rfl

@[simp] theorem State.raise_clock (s : State) (o : Origin) (d : Detail) : (s.raise o d).clock = s.clock := rfl

@[simp] theorem State.raise_frame (s : State) (o : Origin) (d : Detail) : (s.raise o d).frame = s.frame := rfl

@[simp] theorem State.raise_subblock (s : State) (o : Origin) (d : Detail) : (s.raise o d).subblock = s.subblock := rfl

@[simp] theorem State.raise_portA (s : State) (o : Origin) (d : Detail) : (s.raise o d).portA = s.portA := rfl

@[simp] theorem State.raise_portB (s : State) (o : Origin) (d : Detail) : (s.raise o d).portB = s.portB := rfl

@[simp] theorem State.raise_tableA (s : State) (o : Origin) (d : Detail) : (s.raise o d).tableA = s.tableA := rfl

@[simp] theorem State.raise_tableB (s : State) (o : Origin) (d : Detail) : (s.raise o d).tableB = s.tableB := rfl

@[simp] theorem State.raise_tableOut (s : State) (o : Origin) (d : Detail) : (s.raise o d).tableOut = s.tableOut := rfl

@[simp] theorem State.raise_services (s : State) (o : Origin) (d : Detail) : (s.raise o d).services = s.services := rfl

@[simp] theorem State.raise_committed (s : State) (o : Origin) (d : Detail) : (s.raise o d).committed = s.committed := rfl

@[simp] theorem State.raise_output (s : State) (o : Origin) (d : Detail) : (s.raise o d).output = s.output := rfl

@[simp] theorem State.raise_control (s : State) (o : Origin) (d : Detail) : (s.raise o d).control = s.control := rfl

@[simp] theorem State.raise_flash (s : State) (o : Origin) (d : Detail) : (s.raise o d).flash = s.flash := rfl

@[simp] theorem State.raise_storeStatus (s : State) (o : Origin) (d : Detail) : (s.raise o d).storeStatus = s.storeStatus := rfl

/-! ### The transmitter's choice -/

@[simp] theorem State.kick_pending (s : State) : (s.kick).pending = s.pending := by
  unfold State.kick; (repeat' split) <;> rfl

@[simp] theorem State.kick_pins (s : State) : (s.kick).pins = s.pins := by
  unfold State.kick; (repeat' split) <;> rfl

@[simp] theorem State.kick_rate (s : State) : (s.kick).rate = s.rate := by
  unfold State.kick; (repeat' split) <;> rfl

@[simp] theorem State.kick_resetCause (s : State) : (s.kick).resetCause = s.resetCause := by
  unfold State.kick; (repeat' split) <;> rfl

@[simp] theorem State.kick_clock (s : State) : (s.kick).clock = s.clock := by
  unfold State.kick; (repeat' split) <;> rfl

@[simp] theorem State.kick_frame (s : State) : (s.kick).frame = s.frame := by
  unfold State.kick; (repeat' split) <;> rfl

@[simp] theorem State.kick_subblock (s : State) : (s.kick).subblock = s.subblock := by
  unfold State.kick; (repeat' split) <;> rfl

@[simp] theorem State.kick_portA (s : State) : (s.kick).portA = s.portA := by
  unfold State.kick; (repeat' split) <;> rfl

@[simp] theorem State.kick_portB (s : State) : (s.kick).portB = s.portB := by
  unfold State.kick; (repeat' split) <;> rfl

@[simp] theorem State.kick_tableA (s : State) : (s.kick).tableA = s.tableA := by
  unfold State.kick; (repeat' split) <;> rfl

@[simp] theorem State.kick_tableB (s : State) : (s.kick).tableB = s.tableB := by
  unfold State.kick; (repeat' split) <;> rfl

@[simp] theorem State.kick_tableOut (s : State) : (s.kick).tableOut = s.tableOut := by
  unfold State.kick; (repeat' split) <;> rfl

@[simp] theorem State.kick_services (s : State) : (s.kick).services = s.services := by
  unfold State.kick; (repeat' split) <;> rfl

@[simp] theorem State.kick_committed (s : State) : (s.kick).committed = s.committed := by
  unfold State.kick; (repeat' split) <;> rfl

@[simp] theorem State.kick_output (s : State) : (s.kick).output = s.output := by
  unfold State.kick; (repeat' split) <;> rfl

@[simp] theorem State.kick_flash (s : State) : (s.kick).flash = s.flash := by
  unfold State.kick; (repeat' split) <;> rfl

@[simp] theorem State.kick_storeStatus (s : State) : (s.kick).storeStatus = s.storeStatus := by
  unfold State.kick; (repeat' split) <;> rfl

/-! ### The reply queue -/

@[simp] theorem State.appendReply_pending (s : State) (f : ControlFrame) (m : ReplyMark) : (s.appendReply f m).pending = s.pending := rfl

@[simp] theorem State.appendReply_pins (s : State) (f : ControlFrame) (m : ReplyMark) : (s.appendReply f m).pins = s.pins := rfl

@[simp] theorem State.appendReply_rate (s : State) (f : ControlFrame) (m : ReplyMark) : (s.appendReply f m).rate = s.rate := rfl

@[simp] theorem State.appendReply_resetCause (s : State) (f : ControlFrame) (m : ReplyMark) : (s.appendReply f m).resetCause = s.resetCause := rfl

@[simp] theorem State.appendReply_clock (s : State) (f : ControlFrame) (m : ReplyMark) : (s.appendReply f m).clock = s.clock := rfl

@[simp] theorem State.appendReply_frame (s : State) (f : ControlFrame) (m : ReplyMark) : (s.appendReply f m).frame = s.frame := rfl

@[simp] theorem State.appendReply_subblock (s : State) (f : ControlFrame) (m : ReplyMark) : (s.appendReply f m).subblock = s.subblock := rfl

@[simp] theorem State.appendReply_portA (s : State) (f : ControlFrame) (m : ReplyMark) : (s.appendReply f m).portA = s.portA := rfl

@[simp] theorem State.appendReply_portB (s : State) (f : ControlFrame) (m : ReplyMark) : (s.appendReply f m).portB = s.portB := rfl

@[simp] theorem State.appendReply_tableA (s : State) (f : ControlFrame) (m : ReplyMark) : (s.appendReply f m).tableA = s.tableA := rfl

@[simp] theorem State.appendReply_tableB (s : State) (f : ControlFrame) (m : ReplyMark) : (s.appendReply f m).tableB = s.tableB := rfl

@[simp] theorem State.appendReply_tableOut (s : State) (f : ControlFrame) (m : ReplyMark) : (s.appendReply f m).tableOut = s.tableOut := rfl

@[simp] theorem State.appendReply_services (s : State) (f : ControlFrame) (m : ReplyMark) : (s.appendReply f m).services = s.services := rfl

@[simp] theorem State.appendReply_committed (s : State) (f : ControlFrame) (m : ReplyMark) : (s.appendReply f m).committed = s.committed := rfl

@[simp] theorem State.appendReply_output (s : State) (f : ControlFrame) (m : ReplyMark) : (s.appendReply f m).output = s.output := rfl

@[simp] theorem State.appendReply_notices (s : State) (f : ControlFrame) (m : ReplyMark) : (s.appendReply f m).notices = s.notices := rfl

@[simp] theorem State.appendReply_flash (s : State) (f : ControlFrame) (m : ReplyMark) : (s.appendReply f m).flash = s.flash := rfl

@[simp] theorem State.appendReply_storeStatus (s : State) (f : ControlFrame) (m : ReplyMark) : (s.appendReply f m).storeStatus = s.storeStatus := rfl

/-! ### The inbox -/

@[simp] theorem State.dequeued_pending (s : State) : (s.dequeued).pending = s.pending := rfl

@[simp] theorem State.dequeued_pins (s : State) : (s.dequeued).pins = s.pins := rfl

@[simp] theorem State.dequeued_rate (s : State) : (s.dequeued).rate = s.rate := rfl

@[simp] theorem State.dequeued_resetCause (s : State) : (s.dequeued).resetCause = s.resetCause := rfl

@[simp] theorem State.dequeued_clock (s : State) : (s.dequeued).clock = s.clock := rfl

@[simp] theorem State.dequeued_frame (s : State) : (s.dequeued).frame = s.frame := rfl

@[simp] theorem State.dequeued_subblock (s : State) : (s.dequeued).subblock = s.subblock := rfl

@[simp] theorem State.dequeued_portA (s : State) : (s.dequeued).portA = s.portA := rfl

@[simp] theorem State.dequeued_portB (s : State) : (s.dequeued).portB = s.portB := rfl

@[simp] theorem State.dequeued_tableA (s : State) : (s.dequeued).tableA = s.tableA := rfl

@[simp] theorem State.dequeued_tableB (s : State) : (s.dequeued).tableB = s.tableB := rfl

@[simp] theorem State.dequeued_tableOut (s : State) : (s.dequeued).tableOut = s.tableOut := rfl

@[simp] theorem State.dequeued_services (s : State) : (s.dequeued).services = s.services := rfl

@[simp] theorem State.dequeued_committed (s : State) : (s.dequeued).committed = s.committed := rfl

@[simp] theorem State.dequeued_output (s : State) : (s.dequeued).output = s.output := rfl

@[simp] theorem State.dequeued_notices (s : State) : (s.dequeued).notices = s.notices := rfl

@[simp] theorem State.dequeued_flash (s : State) : (s.dequeued).flash = s.flash := rfl

@[simp] theorem State.dequeued_storeStatus (s : State) : (s.dequeued).storeStatus = s.storeStatus := rfl

/-! ### The PROTECT pin -/

@[simp] theorem State.sampleProtect_pending (s : State) (l : PinLevel) : (s.sampleProtect l).pending = s.pending := rfl

@[simp] theorem State.sampleProtect_rate (s : State) (l : PinLevel) : (s.sampleProtect l).rate = s.rate := rfl

@[simp] theorem State.sampleProtect_resetCause (s : State) (l : PinLevel) : (s.sampleProtect l).resetCause = s.resetCause := rfl

@[simp] theorem State.sampleProtect_clock (s : State) (l : PinLevel) : (s.sampleProtect l).clock = s.clock := rfl

@[simp] theorem State.sampleProtect_frame (s : State) (l : PinLevel) : (s.sampleProtect l).frame = s.frame := rfl

@[simp] theorem State.sampleProtect_subblock (s : State) (l : PinLevel) : (s.sampleProtect l).subblock = s.subblock := rfl

@[simp] theorem State.sampleProtect_portA (s : State) (l : PinLevel) : (s.sampleProtect l).portA = s.portA := rfl

@[simp] theorem State.sampleProtect_portB (s : State) (l : PinLevel) : (s.sampleProtect l).portB = s.portB := rfl

@[simp] theorem State.sampleProtect_tableA (s : State) (l : PinLevel) : (s.sampleProtect l).tableA = s.tableA := rfl

@[simp] theorem State.sampleProtect_tableB (s : State) (l : PinLevel) : (s.sampleProtect l).tableB = s.tableB := rfl

@[simp] theorem State.sampleProtect_tableOut (s : State) (l : PinLevel) : (s.sampleProtect l).tableOut = s.tableOut := rfl

@[simp] theorem State.sampleProtect_services (s : State) (l : PinLevel) : (s.sampleProtect l).services = s.services := rfl

@[simp] theorem State.sampleProtect_committed (s : State) (l : PinLevel) : (s.sampleProtect l).committed = s.committed := rfl

@[simp] theorem State.sampleProtect_output (s : State) (l : PinLevel) : (s.sampleProtect l).output = s.output := rfl

@[simp] theorem State.sampleProtect_control (s : State) (l : PinLevel) : (s.sampleProtect l).control = s.control := rfl

@[simp] theorem State.sampleProtect_notices (s : State) (l : PinLevel) : (s.sampleProtect l).notices = s.notices := rfl

@[simp] theorem State.sampleProtect_flash (s : State) (l : PinLevel) : (s.sampleProtect l).flash = s.flash := rfl

@[simp] theorem State.sampleProtect_storeStatus (s : State) (l : PinLevel) : (s.sampleProtect l).storeStatus = s.storeStatus := rfl

/-! ### A map -/

@[simp] theorem State.mapService_pending (s : State) (n : ServiceIndex) (l : Layout) (chs : List ChannelMap) : (s.mapService n l chs).pending = s.pending := rfl

@[simp] theorem State.mapService_pins (s : State) (n : ServiceIndex) (l : Layout) (chs : List ChannelMap) : (s.mapService n l chs).pins = s.pins := rfl

@[simp] theorem State.mapService_rate (s : State) (n : ServiceIndex) (l : Layout) (chs : List ChannelMap) : (s.mapService n l chs).rate = s.rate := rfl

@[simp] theorem State.mapService_resetCause (s : State) (n : ServiceIndex) (l : Layout) (chs : List ChannelMap) : (s.mapService n l chs).resetCause = s.resetCause := rfl

@[simp] theorem State.mapService_clock (s : State) (n : ServiceIndex) (l : Layout) (chs : List ChannelMap) : (s.mapService n l chs).clock = s.clock := rfl

@[simp] theorem State.mapService_frame (s : State) (n : ServiceIndex) (l : Layout) (chs : List ChannelMap) : (s.mapService n l chs).frame = s.frame := rfl

@[simp] theorem State.mapService_subblock (s : State) (n : ServiceIndex) (l : Layout) (chs : List ChannelMap) : (s.mapService n l chs).subblock = s.subblock := rfl

@[simp] theorem State.mapService_portA (s : State) (n : ServiceIndex) (l : Layout) (chs : List ChannelMap) : (s.mapService n l chs).portA = s.portA := rfl

@[simp] theorem State.mapService_portB (s : State) (n : ServiceIndex) (l : Layout) (chs : List ChannelMap) : (s.mapService n l chs).portB = s.portB := rfl

@[simp] theorem State.mapService_committed (s : State) (n : ServiceIndex) (l : Layout) (chs : List ChannelMap) : (s.mapService n l chs).committed = s.committed := rfl

@[simp] theorem State.mapService_output (s : State) (n : ServiceIndex) (l : Layout) (chs : List ChannelMap) : (s.mapService n l chs).output = s.output := rfl

@[simp] theorem State.mapService_control (s : State) (n : ServiceIndex) (l : Layout) (chs : List ChannelMap) : (s.mapService n l chs).control = s.control := rfl

@[simp] theorem State.mapService_notices (s : State) (n : ServiceIndex) (l : Layout) (chs : List ChannelMap) : (s.mapService n l chs).notices = s.notices := rfl

@[simp] theorem State.mapService_flash (s : State) (n : ServiceIndex) (l : Layout) (chs : List ChannelMap) : (s.mapService n l chs).flash = s.flash := rfl

@[simp] theorem State.mapService_storeStatus (s : State) (n : ServiceIndex) (l : Layout) (chs : List ChannelMap) : (s.mapService n l chs).storeStatus = s.storeStatus := rfl

/-! ### A receiver with its notice -/

@[simp] theorem State.portChanged_pending (s : State) (p : Port) (r : Receiver) (b : Bool) : (s.portChanged p r b).pending = s.pending := by
  cases p <;> cases b <;> rfl

@[simp] theorem State.portChanged_pins (s : State) (p : Port) (r : Receiver) (b : Bool) : (s.portChanged p r b).pins = s.pins := by
  cases p <;> cases b <;> rfl

@[simp] theorem State.portChanged_rate (s : State) (p : Port) (r : Receiver) (b : Bool) : (s.portChanged p r b).rate = s.rate := by
  cases p <;> cases b <;> rfl

@[simp] theorem State.portChanged_resetCause (s : State) (p : Port) (r : Receiver) (b : Bool) : (s.portChanged p r b).resetCause = s.resetCause := by
  cases p <;> cases b <;> rfl

@[simp] theorem State.portChanged_clock (s : State) (p : Port) (r : Receiver) (b : Bool) : (s.portChanged p r b).clock = s.clock := by
  cases p <;> cases b <;> rfl

@[simp] theorem State.portChanged_frame (s : State) (p : Port) (r : Receiver) (b : Bool) : (s.portChanged p r b).frame = s.frame := by
  cases p <;> cases b <;> rfl

@[simp] theorem State.portChanged_subblock (s : State) (p : Port) (r : Receiver) (b : Bool) : (s.portChanged p r b).subblock = s.subblock := by
  cases p <;> cases b <;> rfl

@[simp] theorem State.portChanged_tableA (s : State) (p : Port) (r : Receiver) (b : Bool) : (s.portChanged p r b).tableA = s.tableA := by
  cases p <;> cases b <;> rfl

@[simp] theorem State.portChanged_tableB (s : State) (p : Port) (r : Receiver) (b : Bool) : (s.portChanged p r b).tableB = s.tableB := by
  cases p <;> cases b <;> rfl

@[simp] theorem State.portChanged_tableOut (s : State) (p : Port) (r : Receiver) (b : Bool) : (s.portChanged p r b).tableOut = s.tableOut := by
  cases p <;> cases b <;> rfl

@[simp] theorem State.portChanged_services (s : State) (p : Port) (r : Receiver) (b : Bool) : (s.portChanged p r b).services = s.services := by
  cases p <;> cases b <;> rfl

@[simp] theorem State.portChanged_committed (s : State) (p : Port) (r : Receiver) (b : Bool) : (s.portChanged p r b).committed = s.committed := by
  cases p <;> cases b <;> rfl

@[simp] theorem State.portChanged_output (s : State) (p : Port) (r : Receiver) (b : Bool) : (s.portChanged p r b).output = s.output := by
  cases p <;> cases b <;> rfl

@[simp] theorem State.portChanged_control (s : State) (p : Port) (r : Receiver) (b : Bool) : (s.portChanged p r b).control = s.control := by
  cases p <;> cases b <;> rfl

@[simp] theorem State.portChanged_flash (s : State) (p : Port) (r : Receiver) (b : Bool) : (s.portChanged p r b).flash = s.flash := by
  cases p <;> cases b <;> rfl

@[simp] theorem State.portChanged_storeStatus (s : State) (p : Port) (r : Receiver) (b : Bool) : (s.portChanged p r b).storeStatus = s.storeStatus := by
  cases p <;> cases b <;> rfl

/-! ### Several raises -/

@[simp] theorem State.raiseAll_pending (s : State) (o : Origin) (ds : List Detail) : (s.raiseAll o ds).pending = s.pending := by
  unfold State.raiseAll
  induction ds generalizing s with
  | nil => rfl
  | cons d ds ih => simpa using ih (s.raise o d)

@[simp] theorem State.raiseAll_pins (s : State) (o : Origin) (ds : List Detail) : (s.raiseAll o ds).pins = s.pins := by
  unfold State.raiseAll
  induction ds generalizing s with
  | nil => rfl
  | cons d ds ih => simpa using ih (s.raise o d)

@[simp] theorem State.raiseAll_rate (s : State) (o : Origin) (ds : List Detail) : (s.raiseAll o ds).rate = s.rate := by
  unfold State.raiseAll
  induction ds generalizing s with
  | nil => rfl
  | cons d ds ih => simpa using ih (s.raise o d)

@[simp] theorem State.raiseAll_resetCause (s : State) (o : Origin) (ds : List Detail) : (s.raiseAll o ds).resetCause = s.resetCause := by
  unfold State.raiseAll
  induction ds generalizing s with
  | nil => rfl
  | cons d ds ih => simpa using ih (s.raise o d)

@[simp] theorem State.raiseAll_clock (s : State) (o : Origin) (ds : List Detail) : (s.raiseAll o ds).clock = s.clock := by
  unfold State.raiseAll
  induction ds generalizing s with
  | nil => rfl
  | cons d ds ih => simpa using ih (s.raise o d)

@[simp] theorem State.raiseAll_frame (s : State) (o : Origin) (ds : List Detail) : (s.raiseAll o ds).frame = s.frame := by
  unfold State.raiseAll
  induction ds generalizing s with
  | nil => rfl
  | cons d ds ih => simpa using ih (s.raise o d)

@[simp] theorem State.raiseAll_subblock (s : State) (o : Origin) (ds : List Detail) : (s.raiseAll o ds).subblock = s.subblock := by
  unfold State.raiseAll
  induction ds generalizing s with
  | nil => rfl
  | cons d ds ih => simpa using ih (s.raise o d)

@[simp] theorem State.raiseAll_portA (s : State) (o : Origin) (ds : List Detail) : (s.raiseAll o ds).portA = s.portA := by
  unfold State.raiseAll
  induction ds generalizing s with
  | nil => rfl
  | cons d ds ih => simpa using ih (s.raise o d)

@[simp] theorem State.raiseAll_portB (s : State) (o : Origin) (ds : List Detail) : (s.raiseAll o ds).portB = s.portB := by
  unfold State.raiseAll
  induction ds generalizing s with
  | nil => rfl
  | cons d ds ih => simpa using ih (s.raise o d)

@[simp] theorem State.raiseAll_tableA (s : State) (o : Origin) (ds : List Detail) : (s.raiseAll o ds).tableA = s.tableA := by
  unfold State.raiseAll
  induction ds generalizing s with
  | nil => rfl
  | cons d ds ih => simpa using ih (s.raise o d)

@[simp] theorem State.raiseAll_tableB (s : State) (o : Origin) (ds : List Detail) : (s.raiseAll o ds).tableB = s.tableB := by
  unfold State.raiseAll
  induction ds generalizing s with
  | nil => rfl
  | cons d ds ih => simpa using ih (s.raise o d)

@[simp] theorem State.raiseAll_tableOut (s : State) (o : Origin) (ds : List Detail) : (s.raiseAll o ds).tableOut = s.tableOut := by
  unfold State.raiseAll
  induction ds generalizing s with
  | nil => rfl
  | cons d ds ih => simpa using ih (s.raise o d)

@[simp] theorem State.raiseAll_services (s : State) (o : Origin) (ds : List Detail) : (s.raiseAll o ds).services = s.services := by
  unfold State.raiseAll
  induction ds generalizing s with
  | nil => rfl
  | cons d ds ih => simpa using ih (s.raise o d)

@[simp] theorem State.raiseAll_committed (s : State) (o : Origin) (ds : List Detail) : (s.raiseAll o ds).committed = s.committed := by
  unfold State.raiseAll
  induction ds generalizing s with
  | nil => rfl
  | cons d ds ih => simpa using ih (s.raise o d)

@[simp] theorem State.raiseAll_output (s : State) (o : Origin) (ds : List Detail) : (s.raiseAll o ds).output = s.output := by
  unfold State.raiseAll
  induction ds generalizing s with
  | nil => rfl
  | cons d ds ih => simpa using ih (s.raise o d)

@[simp] theorem State.raiseAll_control (s : State) (o : Origin) (ds : List Detail) : (s.raiseAll o ds).control = s.control := by
  unfold State.raiseAll
  induction ds generalizing s with
  | nil => rfl
  | cons d ds ih => simpa using ih (s.raise o d)

@[simp] theorem State.raiseAll_flash (s : State) (o : Origin) (ds : List Detail) : (s.raiseAll o ds).flash = s.flash := by
  unfold State.raiseAll
  induction ds generalizing s with
  | nil => rfl
  | cons d ds ih => simpa using ih (s.raise o d)

@[simp] theorem State.raiseAll_storeStatus (s : State) (o : Origin) (ds : List Detail) : (s.raiseAll o ds).storeStatus = s.storeStatus := by
  unfold State.raiseAll
  induction ds generalizing s with
  | nil => rfl
  | cons d ds ih => simpa using ih (s.raise o d)

/-! ### The close of a service -/

@[simp] theorem State.closeService_pending (s : State) (n : ServiceIndex) : (s.closeService n).pending = s.pending := by
  unfold State.closeService; dsimp only; split <;> simp

@[simp] theorem State.closeService_pins (s : State) (n : ServiceIndex) : (s.closeService n).pins = s.pins := by
  unfold State.closeService; dsimp only; split <;> simp

@[simp] theorem State.closeService_rate (s : State) (n : ServiceIndex) : (s.closeService n).rate = s.rate := by
  unfold State.closeService; dsimp only; split <;> simp

@[simp] theorem State.closeService_resetCause (s : State) (n : ServiceIndex) : (s.closeService n).resetCause = s.resetCause := by
  unfold State.closeService; dsimp only; split <;> simp

@[simp] theorem State.closeService_clock (s : State) (n : ServiceIndex) : (s.closeService n).clock = s.clock := by
  unfold State.closeService; dsimp only; split <;> simp

@[simp] theorem State.closeService_frame (s : State) (n : ServiceIndex) : (s.closeService n).frame = s.frame := by
  unfold State.closeService; dsimp only; split <;> simp

@[simp] theorem State.closeService_subblock (s : State) (n : ServiceIndex) : (s.closeService n).subblock = s.subblock := by
  unfold State.closeService; dsimp only; split <;> simp

@[simp] theorem State.closeService_portA (s : State) (n : ServiceIndex) : (s.closeService n).portA = s.portA := by
  unfold State.closeService; dsimp only; split <;> simp

@[simp] theorem State.closeService_portB (s : State) (n : ServiceIndex) : (s.closeService n).portB = s.portB := by
  unfold State.closeService; dsimp only; split <;> simp

@[simp] theorem State.closeService_tableA (s : State) (n : ServiceIndex) : (s.closeService n).tableA = s.tableA := by
  unfold State.closeService; dsimp only; split <;> simp

@[simp] theorem State.closeService_tableB (s : State) (n : ServiceIndex) : (s.closeService n).tableB = s.tableB := by
  unfold State.closeService; dsimp only; split <;> simp

@[simp] theorem State.closeService_tableOut (s : State) (n : ServiceIndex) : (s.closeService n).tableOut = s.tableOut := by
  unfold State.closeService; dsimp only; split <;> simp

@[simp] theorem State.closeService_output (s : State) (n : ServiceIndex) : (s.closeService n).output = s.output := by
  unfold State.closeService; dsimp only; split <;> simp

@[simp] theorem State.closeService_control (s : State) (n : ServiceIndex) : (s.closeService n).control = s.control := by
  unfold State.closeService; dsimp only; split <;> simp

@[simp] theorem State.closeService_flash (s : State) (n : ServiceIndex) : (s.closeService n).flash = s.flash := by
  unfold State.closeService; dsimp only; split <;> simp

@[simp] theorem State.closeService_storeStatus (s : State) (n : ServiceIndex) : (s.closeService n).storeStatus = s.storeStatus := by
  unfold State.closeService; dsimp only; split <;> simp

/-! ### Autostart -/

@[simp] theorem State.autostart_pending (s : State) (n : ServiceIndex) : (s.autostart n).pending = s.pending := by
  unfold State.autostart; dsimp only; (repeat' split) <;> simp

@[simp] theorem State.autostart_pins (s : State) (n : ServiceIndex) : (s.autostart n).pins = s.pins := by
  unfold State.autostart; dsimp only; (repeat' split) <;> simp

@[simp] theorem State.autostart_rate (s : State) (n : ServiceIndex) : (s.autostart n).rate = s.rate := by
  unfold State.autostart; dsimp only; (repeat' split) <;> simp

@[simp] theorem State.autostart_resetCause (s : State) (n : ServiceIndex) : (s.autostart n).resetCause = s.resetCause := by
  unfold State.autostart; dsimp only; (repeat' split) <;> simp

@[simp] theorem State.autostart_clock (s : State) (n : ServiceIndex) : (s.autostart n).clock = s.clock := by
  unfold State.autostart; dsimp only; (repeat' split) <;> simp

@[simp] theorem State.autostart_frame (s : State) (n : ServiceIndex) : (s.autostart n).frame = s.frame := by
  unfold State.autostart; dsimp only; (repeat' split) <;> simp

@[simp] theorem State.autostart_subblock (s : State) (n : ServiceIndex) : (s.autostart n).subblock = s.subblock := by
  unfold State.autostart; dsimp only; (repeat' split) <;> simp

@[simp] theorem State.autostart_portA (s : State) (n : ServiceIndex) : (s.autostart n).portA = s.portA := by
  unfold State.autostart; dsimp only; (repeat' split) <;> simp

@[simp] theorem State.autostart_portB (s : State) (n : ServiceIndex) : (s.autostart n).portB = s.portB := by
  unfold State.autostart; dsimp only; (repeat' split) <;> simp

@[simp] theorem State.autostart_tableA (s : State) (n : ServiceIndex) : (s.autostart n).tableA = s.tableA := by
  unfold State.autostart; dsimp only; (repeat' split) <;> simp

@[simp] theorem State.autostart_tableB (s : State) (n : ServiceIndex) : (s.autostart n).tableB = s.tableB := by
  unfold State.autostart; dsimp only; (repeat' split) <;> simp

@[simp] theorem State.autostart_tableOut (s : State) (n : ServiceIndex) : (s.autostart n).tableOut = s.tableOut := by
  unfold State.autostart; dsimp only; (repeat' split) <;> simp

@[simp] theorem State.autostart_output (s : State) (n : ServiceIndex) : (s.autostart n).output = s.output := by
  unfold State.autostart; dsimp only; (repeat' split) <;> simp

@[simp] theorem State.autostart_control (s : State) (n : ServiceIndex) : (s.autostart n).control = s.control := by
  unfold State.autostart; dsimp only; (repeat' split) <;> simp

@[simp] theorem State.autostart_flash (s : State) (n : ServiceIndex) : (s.autostart n).flash = s.flash := by
  unfold State.autostart; dsimp only; (repeat' split) <;> simp

@[simp] theorem State.autostart_storeStatus (s : State) (n : ServiceIndex) : (s.autostart n).storeStatus = s.storeStatus := by
  unfold State.autostart; dsimp only; (repeat' split) <;> simp

/-! ### A stored map -/

@[simp] theorem State.applyStored_pending (s : State) (i : Image) (n : ServiceIndex) : (State.applyStored i s n).pending = s.pending := by
  unfold State.applyStored; (repeat' split) <;> simp

@[simp] theorem State.applyStored_pins (s : State) (i : Image) (n : ServiceIndex) : (State.applyStored i s n).pins = s.pins := by
  unfold State.applyStored; (repeat' split) <;> simp

@[simp] theorem State.applyStored_rate (s : State) (i : Image) (n : ServiceIndex) : (State.applyStored i s n).rate = s.rate := by
  unfold State.applyStored; (repeat' split) <;> simp

@[simp] theorem State.applyStored_resetCause (s : State) (i : Image) (n : ServiceIndex) : (State.applyStored i s n).resetCause = s.resetCause := by
  unfold State.applyStored; (repeat' split) <;> simp

@[simp] theorem State.applyStored_clock (s : State) (i : Image) (n : ServiceIndex) : (State.applyStored i s n).clock = s.clock := by
  unfold State.applyStored; (repeat' split) <;> simp

@[simp] theorem State.applyStored_frame (s : State) (i : Image) (n : ServiceIndex) : (State.applyStored i s n).frame = s.frame := by
  unfold State.applyStored; (repeat' split) <;> simp

@[simp] theorem State.applyStored_subblock (s : State) (i : Image) (n : ServiceIndex) : (State.applyStored i s n).subblock = s.subblock := by
  unfold State.applyStored; (repeat' split) <;> simp

@[simp] theorem State.applyStored_portA (s : State) (i : Image) (n : ServiceIndex) : (State.applyStored i s n).portA = s.portA := by
  unfold State.applyStored; (repeat' split) <;> simp

@[simp] theorem State.applyStored_portB (s : State) (i : Image) (n : ServiceIndex) : (State.applyStored i s n).portB = s.portB := by
  unfold State.applyStored; (repeat' split) <;> simp

@[simp] theorem State.applyStored_committed (s : State) (i : Image) (n : ServiceIndex) : (State.applyStored i s n).committed = s.committed := by
  unfold State.applyStored; (repeat' split) <;> simp

@[simp] theorem State.applyStored_output (s : State) (i : Image) (n : ServiceIndex) : (State.applyStored i s n).output = s.output := by
  unfold State.applyStored; (repeat' split) <;> simp

@[simp] theorem State.applyStored_control (s : State) (i : Image) (n : ServiceIndex) : (State.applyStored i s n).control = s.control := by
  unfold State.applyStored; (repeat' split) <;> simp

@[simp] theorem State.applyStored_notices (s : State) (i : Image) (n : ServiceIndex) : (State.applyStored i s n).notices = s.notices := by
  unfold State.applyStored; (repeat' split) <;> simp

@[simp] theorem State.applyStored_flash (s : State) (i : Image) (n : ServiceIndex) : (State.applyStored i s n).flash = s.flash := by
  unfold State.applyStored; (repeat' split) <;> simp

@[simp] theorem State.applyStored_storeStatus (s : State) (i : Image) (n : ServiceIndex) : (State.applyStored i s n).storeStatus = s.storeStatus := by
  unfold State.applyStored; (repeat' split) <;> simp

/-! ### What a read of a receiver or service sees after an update elsewhere -/

@[simp] theorem State.raise_receiver (s : State) (o : Origin) (d : Detail) (p : Port) : (s.raise o d).receiver p = s.receiver p := by
  cases p <;> simp [State.receiver]

@[simp] theorem State.kick_receiver (s : State) (p : Port) : (s.kick).receiver p = s.receiver p := by
  cases p <;> simp [State.receiver]

@[simp] theorem State.appendReply_receiver (s : State) (f : ControlFrame) (m : ReplyMark) (p : Port) : (s.appendReply f m).receiver p = s.receiver p := by
  cases p <;> simp [State.receiver]

@[simp] theorem State.dequeued_receiver (s : State) (p : Port) : (s.dequeued).receiver p = s.receiver p := by
  cases p <;> simp [State.receiver]

@[simp] theorem State.sampleProtect_receiver (s : State) (l : PinLevel) (p : Port) : (s.sampleProtect l).receiver p = s.receiver p := by
  cases p <;> simp [State.receiver]

@[simp] theorem State.raiseAll_receiver (s : State) (o : Origin) (ds : List Detail) (p : Port) : (s.raiseAll o ds).receiver p = s.receiver p := by
  cases p <;> simp [State.receiver]

@[simp] theorem State.setService_receiver (s : State) (n : ServiceIndex) (sv : Service) (p : Port) : (s.setService n sv).receiver p = s.receiver p := by
  cases p <;> simp [State.receiver]

@[simp] theorem State.closeService_receiver (s : State) (n : ServiceIndex) (p : Port) : (s.closeService n).receiver p = s.receiver p := by
  cases p <;> simp [State.receiver]

@[simp] theorem State.raise_service (s : State) (o : Origin) (d : Detail) (n : ServiceIndex) : (s.raise o d).service n = s.service n := by
  simp [State.service]

@[simp] theorem State.kick_service (s : State) (n : ServiceIndex) : (s.kick).service n = s.service n := by
  simp [State.service]

@[simp] theorem State.appendReply_service (s : State) (f : ControlFrame) (m : ReplyMark) (n : ServiceIndex) : (s.appendReply f m).service n = s.service n := by
  simp [State.service]

@[simp] theorem State.dequeued_service (s : State) (n : ServiceIndex) : (s.dequeued).service n = s.service n := by
  simp [State.service]

@[simp] theorem State.sampleProtect_service (s : State) (l : PinLevel) (n : ServiceIndex) : (s.sampleProtect l).service n = s.service n := by
  simp [State.service]

@[simp] theorem State.raiseAll_service (s : State) (o : Origin) (ds : List Detail) (n : ServiceIndex) : (s.raiseAll o ds).service n = s.service n := by
  simp [State.service]

@[simp] theorem State.setReceiver_service (s : State) (p : Port) (r : Receiver) (n : ServiceIndex) : (s.setReceiver p r).service n = s.service n := by
  simp [State.service]

@[simp] theorem State.remapped_service (s : State) (m : ServiceIndex) (chs : List ChannelMap) (n : ServiceIndex) : (s.remapped m chs).service n = s.service n := by
  simp [State.service]

@[simp] theorem State.raise_owner (s : State) (o : Origin) (d : Detail) : (s.raise o d).owner = s.owner := by
  funext t slot; cases t <;> simp [State.owner, State.table]

@[simp] theorem State.kick_owner (s : State) : (s.kick).owner = s.owner := by
  funext t slot; cases t <;> simp [State.owner, State.table]

@[simp] theorem State.appendReply_owner (s : State) (f : ControlFrame) (m : ReplyMark) : (s.appendReply f m).owner = s.owner := by
  funext t slot; cases t <;> simp [State.owner, State.table]

@[simp] theorem State.dequeued_owner (s : State) : (s.dequeued).owner = s.owner := by
  funext t slot; cases t <;> simp [State.owner, State.table]

@[simp] theorem State.sampleProtect_owner (s : State) (l : PinLevel) : (s.sampleProtect l).owner = s.owner := by
  funext t slot; cases t <;> simp [State.owner, State.table]

@[simp] theorem State.raiseAll_owner (s : State) (o : Origin) (ds : List Detail) : (s.raiseAll o ds).owner = s.owner := by
  funext t slot; cases t <;> simp [State.owner, State.table]

@[simp] theorem State.setReceiver_owner (s : State) (p : Port) (r : Receiver) : (s.setReceiver p r).owner = s.owner := by
  funext t slot; cases t <;> simp [State.owner, State.table]

@[simp] theorem State.setService_owner (s : State) (n : ServiceIndex) (sv : Service) : (s.setService n sv).owner = s.owner := by
  funext t slot; cases t <;> simp [State.owner, State.table]

@[simp] theorem State.closeService_owner (s : State) (n : ServiceIndex) : (s.closeService n).owner = s.owner := by
  funext t slot; cases t <;> simp [State.owner, State.table]

@[simp] theorem State.autostart_owner (s : State) (n : ServiceIndex) : (s.autostart n).owner = s.owner := by
  funext t slot; cases t <;> simp [State.owner, State.table]

@[simp] theorem State.raise_operating (s : State) (o : Origin) (d : Detail) : (s.raise o d).operating = s.operating := by
  simp [State.operating]

@[simp] theorem State.kick_operating (s : State) : (s.kick).operating = s.operating := by
  simp [State.operating]

@[simp] theorem State.appendReply_operating (s : State) (f : ControlFrame) (m : ReplyMark) : (s.appendReply f m).operating = s.operating := by
  simp [State.operating]

@[simp] theorem State.dequeued_operating (s : State) : (s.dequeued).operating = s.operating := by
  simp [State.operating]

@[simp] theorem State.sampleProtect_operating (s : State) (l : PinLevel) : (s.sampleProtect l).operating = s.operating := by
  simp [State.operating, State.sampleProtect]

@[simp] theorem State.setReceiver_operating (s : State) (p : Port) (r : Receiver) : (s.setReceiver p r).operating = s.operating := by
  simp [State.operating]

@[simp] theorem State.setService_operating (s : State) (n : ServiceIndex) (sv : Service) : (s.setService n sv).operating = s.operating := by
  simp [State.operating]

end Sys2Proof.Machine
end

