-- ==== Sys2Proof/Laws/Ops.lean ====
section
/-! SUPPORT. What each shared operation can do, said once: the transmitter's choice, queueing a reply, serving a request, a
raise, the end of a notice frame, the store of a receiver and a read of it, an edge, the limiter, the image with its check
word, and the end of a reset. -/

namespace Sys2Proof.Machine

/-! ### The transmitter's choice (R170) -/

/-- A kick begins at most one frame: it leaves the part alone, begins the oldest reply, or begins the oldest notice. -/
theorem State.kick_cases (s : State) :
    s.kick = s ∨
      (∃ r rest, s.control.sending = .idle ∧ s.control.replies = r :: rest ∧
        s.kick = { s with control := { s.control with sending := .reply r.frame } }) ∨
      ∃ e rest, s.control.sending = .idle ∧ s.control.replies = [] ∧ s.notices.entries = e :: rest ∧
        s.kick =
          { s with
            control := { s.control with sending := .notice (NoticeEntry.frame e) }
            notices :=
              { s.notices with entries := { e with inFrame := some { raises := 0, first := none } } :: rest } } := by
  unfold State.kick
  split
  · exact .inl rfl
  · split <;> first | exact .inl rfl | skip
    all_goals
      rename_i hs hp
      split
      · next h => exact .inr (.inl ⟨_, _, hs, h, rfl⟩)
      · next hr he => exact .inr (.inr ⟨_, _, hs, hr, he, rfl⟩)
      · exact .inl rfl

theorem State.kick_of_busy {s : State} (h : s.control.sending ≠ .idle) : s.kick = s := by
  rcases s.kick_cases with hk | ⟨_, _, hs, _⟩ | ⟨_, _, hs, _⟩
  · exact hk
  · exact absurd hs h
  · exact absurd hs h

/-- With a reply waiting and no reset due, an idle transmitter begins the oldest reply. -/
theorem State.kick_reply {s : State} {r : Reply} {rest : List Reply} (ho : s.operating = true)
    (hs : s.control.sending = .idle) (hp : ∀ o, s.control.resetPhase ≠ .due o) (hr : s.control.replies = r :: rest) :
    s.kick = { s with control := { s.control with sending := .reply r.frame } } := by
  unfold State.kick
  cases hq : s.control.resetPhase with
  | due o => exact absurd hq (hp o)
  | none => simp [ho, hs, hr]
  | waiting o => simp [ho, hs, hr]

/-- With no reply waiting and no reset due, an idle transmitter begins the oldest notice. -/
theorem State.kick_notice {s : State} {e : NoticeEntry} {rest : List NoticeEntry} (ho : s.operating = true)
    (hs : s.control.sending = .idle) (hp : ∀ o, s.control.resetPhase ≠ .due o) (hr : s.control.replies = [])
    (he : s.notices.entries = e :: rest) :
    s.kick =
      { s with
        control := { s.control with sending := .notice (NoticeEntry.frame e) }
        notices :=
          { s.notices with entries := { e with inFrame := some { raises := 0, first := none } } :: rest } } := by
  unfold State.kick
  cases hq : s.control.resetPhase with
  | due o => exact absurd hq (hp o)
  | none => simp [ho, hs, hr, he]
  | waiting o => simp [ho, hs, hr, he]

/-- With nothing waiting a kick does nothing. -/
theorem State.kick_nothing {s : State} (hr : s.control.replies = []) (he : s.notices.entries = []) : s.kick = s := by
  rcases s.kick_cases with hk | ⟨_, _, _, h, _⟩ | ⟨_, _, _, _, h, _⟩
  · exact hk
  · rw [hr] at h; exact absurd h (by simp)
  · rw [he] at h; exact absurd h (by simp)

/-! ### Serving (R167 to R169) -/

/-- A request that can be served is what the inbox gives first. -/
theorem State.servable_of_serving {s : State} {kind : Byte} {f : ControlFrame} {rest : List ControlFrame}
    (h : Serving s kind f rest) {kinds : Byte → Bool} (hk : kinds f.kind = true) : s.servable kinds = some f := by
  obtain ⟨ho, hp, hc, hi, -⟩ := h
  simp [State.servable, ho, hp, hc, hi, hk]

/-- A reply appended to a part that can serve, and the transmitter's choice after it. -/
theorem State.kick_appendReply {t : State} {frame : ControlFrame} {mark : ReplyMark} (ho : t.operating = true)
    (hp : ∀ o, t.control.resetPhase ≠ .due o) :
    (t.appendReply frame mark).kick = t.answered t.control.inbox frame mark := by
  by_cases hs : t.control.sending = .idle
  · cases hr : t.control.replies with
    | nil =>
      rw [State.kick_reply (r := { frame, mark }) (rest := []) (by exact ho) (by exact hs) (by exact hp)
        (by simp [State.appendReply, hr])]
      simp [State.appendReply, State.answered, sendingAfter, hs, hr]
    | cons r rest =>
      rw [State.kick_reply (r := r) (rest := rest ++ [⟨frame, mark⟩]) (by exact ho) (by exact hs) (by exact hp)
        (by simp [State.appendReply, hr])]
      simp [State.appendReply, State.answered, sendingAfter, hs, hr]
  · rw [State.kick_of_busy (by exact hs)]
    have : sendingAfter t.control.sending (t.control.replies ++ [⟨frame, mark⟩]) = t.control.sending := by
      unfold sendingAfter; split
      · next h _ => exact absurd h hs
      · rfl
    simp [State.appendReply, State.answered, this]

/-- A served request: when its rule gives the part `t` without the request, and an answer, the part is `t` with the reply. -/
theorem serve_of_serving {s t : State} {kind : Byte} {f : ControlFrame} {rest : List ControlFrame} {a : Answer}
    {act : ControlFrame → State → State × Answer} (h : Serving s kind f rest) (hact : act f s.dequeued = (t.dequeued, a))
    (hc : t.control = s.control) (ho : t.operating = true) :
    serve kind act s = t.answered rest (replyTo f a.status a.detail) .ordinary := by
  unfold serve
  rw [State.servable_of_serving h (by simpa using h.2.2.2.2)]
  simp only [hact]
  rw [State.kick_appendReply (by exact ho) (by intro o; simp [State.dequeued, hc, h.2.1])]
  simp [State.dequeued, State.answered, hc, h.2.2.2.1]

/-- A command for which no request of its kind can be served does nothing (log 1). -/
theorem serve_of_not_servable {s : State} {kind : Byte} {act : ControlFrame → State → State × Answer}
    (h : s.servable (· == kind) = none) : serve kind act s = s := by
  simp [serve, h]

/-- A unit that names a service, by its index. -/
theorem serviceOf_eq_some {unit : Byte} {n : ServiceIndex} : serviceOf unit = some n ↔ unit = BitVec.ofNat 8 n.val := by
  unfold serviceOf
  split
  · next h =>
    simp only [Option.some.injEq]
    constructor
    · rintro rfl; simp
    · rintro rfl; ext; simp; omega
  · next h =>
    simp only [reduceCtorEq, false_iff]
    rintro rfl
    exact h (by simp; omega)

theorem serviceOf_eq_none {unit : Byte} : serviceOf unit = none ↔ ∀ n : ServiceIndex, unit ≠ BitVec.ofNat 8 n.val := by
  rw [Option.eq_none_iff_forall_ne_some]
  exact forall_congr' fun n => not_congr serviceOf_eq_some

/-! ### Raises (R177) -/

/-- A raise changes the notice set alone, and never its mask. -/
theorem State.raise_eq (s : State) (o : Origin) (d : Detail) :
    s.raise o d = { s with notices := { s.notices with entries := (s.raise o d).notices.entries } } := by
  unfold State.raise Notices.raise
  split
  · rfl
  · split <;> rfl

theorem Notices.raise_masked {ns : Notices} {d : Detail} (o : Origin) (w : Word32)
    (h : ns.mask.getLsbD (NoticeKind.code d.kind) = false) : ns.raise o d w = ns := by
  simp [Notices.raise, Notices.enabled, h]

/-- A raise that is not masked leaves an entry of its origin that carries its detail. -/
theorem Notices.raised_raise (ns : Notices) (o : Origin) (d : Detail) (w : Word32) :
    Raised ns.mask (ns.raise o d w) o d := by
  intro hm
  unfold Notices.raise
  simp only [Notices.enabled, hm, Bool.not_true, Bool.false_eq_true, if_false]
  split
  · next h =>
    obtain ⟨e, he, hf⟩ := List.any_eq_true.mp h
    refine ⟨_, List.mem_map.mpr ⟨e, he, rfl⟩, ?_, ?_⟩
    · simp only [hf, if_true, NoticeEntry.raisedAgain]
      simp only [NoticeEntry.isFor, Bool.and_eq_true, beq_iff_eq] at hf
      exact hf.1
    · simp [hf, NoticeEntry.raisedAgain]
  · exact ⟨⟨o, d, w, 1, none⟩, by simp, rfl, rfl⟩

theorem NoticeEntry.isFor_iff {o : Origin} {k : NoticeKind} {e : NoticeEntry} :
    e.isFor o k = true ↔ e.pair = (o, k) := by
  simp [NoticeEntry.isFor, NoticeEntry.pair]

@[simp] theorem NoticeEntry.raisedAgain_pair {e : NoticeEntry} {d : Detail} {w : Word32} :
    (e.raisedAgain d w).pair = (e.origin, d.kind) := rfl

/-- Raises keep one entry for each pair of origin and kind (R177). -/
theorem Notices.lawful_raise {ns : Notices} (h : ns.Lawful) (o : Origin) (d : Detail) (w : Word32) :
    (ns.raise o d w).Lawful := by
  unfold Notices.raise
  split
  · exact h
  · split
    · unfold Notices.Lawful at h ⊢
      simp only [List.map_map]
      convert h using 1
      refine List.map_congr_left fun e _ => ?_
      simp only [Function.comp_apply]
      split
      · next hf =>
        rw [NoticeEntry.isFor_iff] at hf
        rw [NoticeEntry.raisedAgain_pair, hf]
        simp only [NoticeEntry.pair, Prod.mk.injEq] at hf
        rw [hf.1]
      · rfl
    · next hn =>
      unfold Notices.Lawful at h ⊢
      simp only [List.map_append, List.map_cons, List.map_nil]
      rw [List.nodup_append]
      refine ⟨h, by simp, ?_⟩
      intro a ha b hb hab
      simp only [List.mem_singleton] at hb
      subst hab hb
      obtain ⟨e, he, hp⟩ := List.mem_map.mp ha
      exact hn (List.any_eq_true.mpr ⟨e, he, NoticeEntry.isFor_iff.mpr hp⟩)

/-! ### Counting replies (R169) -/

@[simp] theorem replyCount_nil : replyCount [] = 0 := rfl

theorem replyCount_append (a b : List Reply) : replyCount (a ++ b) = replyCount a + replyCount b := by
  simp [replyCount]

theorem replyCount_cons (r : Reply) (rest : List Reply) :
    replyCount (r :: rest) = (if r.mark = .store then 0 else 1) + replyCount rest := by
  by_cases h : r.mark = .store <;> simp [replyCount, h]; omega

/-! ### The elastic store (R12, R13) -/

/-- Offering an entry enters it or counts a slip, and nothing else. -/
theorem Receiver.entered_cases (r : Receiver) (e : StoreFrame) :
    (r.store.length < 64 ∧
      r.entered e =
        { r with
          store := r.store ++ [e], lastEntered := some e.slots
          centred := r.centred || decide (r.store.length + 1 = 32) }) ∨
      64 ≤ r.store.length ∧ r.entered e = { r with slips := min (r.slips + 1) 65535 } := by
  unfold Receiver.entered
  split
  · next h => exact .inl ⟨h, rfl⟩
  · next h => exact .inr ⟨Nat.le_of_not_lt h, rfl⟩

/-- A read returns ABSENT zeros, a HELD repeat with a slip, or the oldest entry under its mark; the frame read stays in the
receiver (R13, R14, R21). -/
theorem Receiver.read_cases (r : Receiver) :
    (r.centred = false ∧ r.read.2 = { slots := Vector.replicate 32 0, mark := .absent } ∧
      r.read.1 = { r with frameRead := some r.read.2 }) ∨
    (r.centred = true ∧ r.store = [] ∧
      r.read.2 = { slots := r.lastRead.getD (Vector.replicate 32 0), mark := .held } ∧
      r.read.1 = { r with slips := min (r.slips + 1) 65535, frameRead := some r.read.2 }) ∨
    ∃ e rest, r.centred = true ∧ r.store = e :: rest ∧ r.read.2 = { slots := e.slots, mark := e.mark.read } ∧
      r.read.1 =
        { r with
          store := rest, lastRead := some e.slots, frameRead := some r.read.2
          errorsNow := r.errorsNow + if e.error then 1 else 0 } := by
  cases hc : r.centred with
  | false => exact .inl ⟨rfl, by simp [Receiver.read, Receiver.nextRead, hc, Slots.silence],
      by simp [Receiver.read, Receiver.afterRead, hc]⟩
  | true =>
    cases hs : r.store with
    | nil =>
      refine .inr (.inl ⟨rfl, rfl, by simp [Receiver.read, Receiver.nextRead, hc, hs, Slots.silence], ?_⟩)
      simp [Receiver.read, Receiver.afterRead, hc, hs, satInc, Config.max16]
    | cons e rest =>
      refine .inr (.inr ⟨e, rest, rfl, rfl, by simp [Receiver.read, Receiver.nextRead, hc, hs], ?_⟩)
      cases he : e.error <;> simp [Receiver.read, Receiver.afterRead, hc, hs, he]

/-! ### The clock unit (R1, R2) -/

/-- An edge under REFERENCE gives the waiting frame its boundary or changes nothing. -/
theorem Clock.edge_reference {c : Clock} (h : c.source = .reference) (before : Rat) (since : Option Rat) :
    c.edge before since = if c.edgeBegins before then { c with missing := 0, start := .given } else c := by
  simp [Clock.edge, h]

/-- An edge under INTERNAL moves the return count alone. -/
theorem Clock.edge_internal {c : Clock} (h : c.source = .internal) (before : Rat) (since : Option Rat) :
    c.edge before since = { c with returns := (c.edge before since).returns } := by
  obtain ⟨_, _, _, _⟩ := c
  subst h
  simp only [Clock.edge]
  split <;> rfl

/-- No output frame begins before its boundary has come (R1). -/
theorem outputFrame_of_waiting {s : State} (h : s.clock.start ≠ .given) : outputFrame s = s := by
  have : (s.clock.start == FrameStart.given) = false := by simpa using h
  simp [outputFrame, this]

/-! ### The limiter (R119, R130, R132) -/

/-- The start of an output touches the queue and the last applied gain alone. -/
theorem Limiter.outputStarted_eq (l : Limiter) (release : Int) :
    l.outputStarted release =
      { l with queue := (l.outputStarted release).queue, lastGain := (l.outputStarted release).lastGain } := by
  unfold Limiter.outputStarted
  split
  · split <;> rfl
  · rfl

/-- A frame of output touches the queue and the subblock minimum alone. -/
theorem Limiter.output_eq (l : Limiter) (i channels : Nat) :
    (l.output i channels).1 =
      { l with queue := (l.output i channels).1.queue, subMin := (l.output i channels).1.subMin } := by
  unfold Limiter.output
  split
  · split <;> rfl
  · rfl

/-- A frame of the limiter touches the queue, the last applied gain and the subblock minimum alone. -/
theorem Limiter.limit_eq (l : Limiter) (i : Nat) (cp release : Int) (us : List Int) :
    (l.limit i cp release us).1 =
      { l with
        queue := (l.limit i cp release us).1.queue
        lastGain := (l.limit i cp release us).1.lastGain
        subMin := (l.limit i cp release us).1.subMin } := by
  unfold Limiter.limit
  dsimp only
  rw [Limiter.output_eq]
  split
  · rw [Limiter.outputStarted_eq]
  · rfl

/-- Taking up a pending fade touches the fade alone. -/
theorem Limiter.fadeTakenUp_eq (l : Limiter) :
    l.fadeTakenUp = { l with fade := l.fadeTakenUp.fade, pendingFade := none } := by
  unfold Limiter.fadeTakenUp
  split
  · next h => rw [← h]
  · rfl
  · rfl

theorem saturate_eq (v : Int) : saturate v = max (-8388608) (min 8388607 v) := by
  unfold saturate clampTo
  split
  · omega
  · split <;> omega

/-! ### The image and its check word (R184) -/

@[simp] theorem Flash.sealed_status (i : Image) : (Flash.sealed i).status = .valid := by
  simp [Flash.sealed, Flash.status]

@[simp] theorem Flash.sealed_items (i : Image) : (Flash.sealed i).items? = some i := by
  simp only [Flash.items?, Flash.sealed]
  exact if_pos (Flash.sealed_status i)

@[simp] theorem Flash.spoilt_status (i : Image) : (Flash.spoilt i).status = .invalid := by
  simp [Flash.spoilt, Flash.status]

/-- Only an image whose check word is correct gives its items. -/
theorem Flash.items_eq_some {f : Flash} {i : Image} : f.items? = some i ↔ f = .sealed i := by
  cases f with
  | blank => simp [Flash.items?, Flash.sealed]
  | written items check =>
    simp only [Flash.items?, Flash.sealed, Flash.status]
    by_cases h : items.checkWord = check
    · simp only [h, if_true, Option.some.injEq, Flash.written.injEq]
      constructor
      · rintro rfl; exact ⟨rfl, h.symm⟩
      · exact And.left
    · simp only [h, if_false, reduceCtorEq, Flash.written.injEq, false_iff]
      rintro ⟨rfl, rfl⟩
      exact h rfl

/-- A flash that gives no items leaves the status INVALID or BLANK. -/
theorem Flash.items_eq_none {f : Flash} : f.items? = none ↔ f.status ≠ .valid := by
  cases f <;> simp [Flash.items?, Flash.status]

/-! ### Loads and the end of a reset (R34, R55, R187) -/

theorem allServices_eq : allServices = List.finRange 16 := by decide

@[simp] theorem State.autostart_all_storeStatus (services : List ServiceIndex) (s : State) :
    (services.foldl State.autostart s).storeStatus = s.storeStatus := by
  induction services generalizing s with
  | nil => rfl
  | cons n rest ih => rw [List.foldl_cons, ih, State.autostart_storeStatus]

/-- Every reset ends with autostart and READY from the state that it has cleared. -/
theorem State.resetEnded_eq (s : State) (cause : ResetCause) :
    s.resetEnded cause =
      State.autostarted
        { s with
          frame := 0, subblock := 0, committed := 0, control := ControlPort.afterReset, resetCause := cause } cause := by
  simp only [State.resetEnded, State.autostarted, allServices_eq, State.autostart_all_storeStatus]

/-- A stored map touches the slot tables and the services alone. -/
theorem State.applyStored_eq (i : Image) (s : State) (n : ServiceIndex) :
    State.applyStored i s n =
      { s with
        tableA := (State.applyStored i s n).tableA, tableB := (State.applyStored i s n).tableB
        tableOut := (State.applyStored i s n).tableOut, services := (State.applyStored i s n).services } := by
  unfold State.applyStored
  split
  · rfl
  · split <;> rfl

/-- So do all of them. -/
theorem State.applyStored_all_eq (i : Image) (services : List ServiceIndex) (s : State) :
    services.foldl (State.applyStored i) s =
      { s with
        tableA := (services.foldl (State.applyStored i) s).tableA
        tableB := (services.foldl (State.applyStored i) s).tableB
        tableOut := (services.foldl (State.applyStored i) s).tableOut
        services := (services.foldl (State.applyStored i) s).services } := by
  induction services generalizing s with
  | nil => rfl
  | cons n rest ih =>
    rw [List.foldl_cons]
    generalize hs : State.applyStored i s n = next
    rw [ih next, ← hs, State.applyStored_eq]

end Sys2Proof.Machine
end

