-- ==== Sys2Proof/Tests/Slice0.lean ====
section
/-! SUPPORT. Tests: ill-formed commands refused, small steps whose results are the book's worked figures, and a witness for
the hypotheses of each obligation that has any. Expected values are the book's, not the model's. -/

set_option Elab.async false

namespace Sys2Proof.Tests

open Machine

/-! ### States to test on -/

/-- What a command leaves, when it answers a next state. -/
def after (c : Instr) (s : State) : State :=
  match exec c s with
  | .next t => t
  | .fault _ => s
  | .refused _ => s

/-- The part after reset once READY has been sent. -/
def quiet : State :=
  { State.reset with control := ControlPort.afterReset, notices := { entries := [], mask := 0xFF } }

/-- `s` with one request in the inbox. -/
def asked (s : State) (kind unit : Byte) (payload : List Byte) : State :=
  { s with control := { s.control with inbox := [{ kind, tag := 7, unit, payload }] } }

/-- The payloads of the replies that wait. -/
def replies (s : State) : List (List Byte) :=
  s.control.replies.map fun r => r.frame.payload

/-- A stereo map with reserve. -/
def stereoMap : List ChannelMap :=
  [{ main := 0, reserve := some 0, output := 0 }, { main := 1, reserve := some 1, output := 1 }]

/-- A part whose service 3 is a stereo service with reserve, IDLE. -/
def idle3 : State :=
  quiet.mapService 3 .stereo stereoMap

/-- A stereo service with reserve in a lifecycle state, after a Start. -/
def live (l : Lifecycle) : Service :=
  { (idle3.service 3).started false with
    lifecycle := l
    resume := if l = .dropped then some .active else none
    haltPhase := if l = .halting then some .halt else none }

/-- A part whose service 3 is in a lifecycle state, a running one committed. -/
def running3 (l : Lifecycle) : State :=
  { idle3.setService 3 (live l) with committed := 8 }

/-- `s` with the boundary of its next output frame come. -/
def due (s : State) : State :=
  { s with clock := { s.clock with start := .given } }

/-- A part with a Store in flight. -/
def storing : State :=
  { quiet with control := { quiet.control with storeJob := some { image := quiet.snapshot, tag := 20, unit := 0xFF } } }

/-- An image with a limit on either side of its range, and a profile and a map of service 3 that fail their checks. -/
def damaged : Image :=
  { idle3.snapshot with
    limitA := 0
    limitB := 4801
    services := idle3.snapshot.services.set 3 { map := some [2, 0, 0, 0, 1, 1, 0], profile := [] } }

/-- A link frame of zeros, whose check is 0. -/
def zeroFrame (counter check : BitVec 8) : LinkFrame :=
  { sync := 0xB62E, body := { counter, slots := Vector.replicate 32 0, check } }

/-- Port A in a sync state with a fill, centred or not. -/
def portA (sync : SyncState) (expected : BitVec 8) (badRun fill : Nat) (centred : Bool) : State :=
  { quiet with
    portA :=
      { Receiver.afterReset 48 with
        sync, badRun, centred, expected := some expected
        store := List.replicate fill { slots := Vector.replicate 32 5, mark := .valid, error := true } } }

/-! ### The check of a link frame (R5) -/

theorem crcBits_append {w : Nat} (g init : BitVec w) (a b : List Bool) :
    crcBits g init (a ++ b) = crcBits g (crcBits g init a) b := by
  simp [crcBits, List.foldl_append]

theorem crcBits_zero {w : Nat} (g : BitVec w) (bits : List Bool) (h : bits.all (fun b => !b) = true) :
    crcBits g 0#w bits = 0#w := by
  induction bits with
  | nil => rfl
  | cons b rest ih =>
    simp only [List.all_cons, Bool.and_eq_true, Bool.not_eq_true'] at h
    have : crcStep g 0#w b = 0#w := by simp [crcStep, h.1, BitVec.msb_zero]
    show crcBits g (crcStep g 0#w b) rest = 0#w
    rw [this, ih h.2]

theorem zeroFrame_check (check : BitVec 8) :
    crc8 (LinkBody.covered (zeroFrame 0 check).body ++ bitsMsb check) = crcBits 0x07#8 0#8 (bitsMsb check) := by
  unfold crc8
  rw [crcBits_append, crcBits_zero]
  show (LinkBody.covered (zeroFrame 0 0).body).all (fun b => !b) = true
  decide +kernel

theorem zeroFrame_intact : LinkBody.intact (zeroFrame 0 0).body = true := by
  unfold LinkBody.intact
  rw [show (zeroFrame 0 0).body.check = 0 from rfl, zeroFrame_check]
  decide +kernel

theorem zeroFrame_damaged : LinkBody.intact (zeroFrame 0 1).body = false := by
  unfold LinkBody.intact
  rw [show (zeroFrame 0 1).body.check = 1 from rfl, zeroFrame_check]
  decide +kernel

theorem arrives_intact (r : Receiver) (f : LinkFrame) (hs : f.sync = syncWord) (hi : LinkBody.intact f.body = true) :
    r.framePosition (some f) =
      { r with badRun := 0 }.arrived f.body.counter f.body.slots
        (if r.expected = some f.body.counter then .good else .discontinuity) := by
  have h : classify r.expected (some f) = if r.expected = some f.body.counter then .good else .discontinuity := by
    simp [classify, hs, hi]
  unfold Receiver.framePosition
  rw [h]
  by_cases hr : r.expected = some f.body.counter <;> simp [hr]

theorem zeroFrame_arrives (r : Receiver) :
    r.framePosition (some (zeroFrame 0 0)) =
      { r with badRun := 0 }.arrived 0 (Vector.replicate 32 0) (if r.expected = some 0 then .good else .discontinuity) :=
  arrives_intact r (zeroFrame 0 0) rfl zeroFrame_intact

/-! ### Ill-formed commands -/

theorem test_illFormed_refclkEdge : (Instr.refclkEdge 0 (some (-1))).wellFormed = false := by decide +kernel
theorem test_wellFormed_refclkEdge : (Instr.refclkEdge (-1) (some 0)).wellFormed = true := by decide +kernel
theorem test_illFormed_subblockEnd : (Instr.subblockEnd [.port .a]).wellFormed = false := by decide +kernel
theorem test_illFormed_subblockEnd_twice :
    (Instr.subblockEnd (.port .a :: CloseItem.all.tail.tail ++ [.port .a])).wellFormed = false := by decide +kernel
theorem test_wellFormed_subblockEnd : (Instr.subblockEnd CloseItem.all.reverse).wellFormed = true := by decide +kernel
theorem test_illFormed_powerOn : (Instr.powerOn .low .low (some (-1 / 2))).wellFormed = false := by decide +kernel
theorem test_illFormed_resetPinRelease : (Instr.resetPinRelease .low .high (some (-3))).wellFormed = false := by
  decide +kernel

/-- No row of the table gives bits. -/
theorem test_no_word_spells_a_command : decodeTableWord 8 0x81 = none ∧ quiet.withFetchWord 8 0x81 = quiet := ⟨rfl, rfl⟩

/-! ### Clock and ports (chapter 1) -/

/-- R1: a missing edge counts, and the oscillator supplies the boundary. -/
theorem test_missingEdge : (after .missingEdge quiet).clock = ⟨.reference, 1, 0, .given⟩ := by decide +kernel

/-- R1: CLOCK with detail INTERNAL from the device. -/
theorem test_clockToInternal :
    (after .clockToInternal { quiet with clock := { quiet.clock with missing := 3 } }).notices.entries.map
      (fun e => (e.origin, e.detail)) = [(.device, .clock .internal)] := by decide +kernel

/-- R2: an interval above 1.5 frame periods begins the count again. -/
theorem test_refclkEdge_late :
    (after (.refclkEdge 0 (some (8 / 5))) { quiet with clock := ⟨.internal, 0, 4799, .given⟩ }).clock.returns = 0 := by
  decide +kernel

/-- R1, R2: an edge a quarter of a period before the boundary begins the frame; after a return one half a period after the
boundary does, and one before it does not. -/
theorem test_refclkEdge_begins :
    (after (.refclkEdge (1 / 4) (some 1)) { quiet with clock := ⟨.reference, 2, 0, .window⟩ }).clock
        = ⟨.reference, 0, 0, .given⟩ ∧
      (after (.refclkEdge (-1 / 2) (some 1)) { quiet with clock := ⟨.reference, 0, 4800, .firstEdge⟩ }).clock.start = .given ∧
      (after (.refclkEdge (1 / 8) (some 1)) { quiet with clock := ⟨.reference, 0, 4800, .firstEdge⟩ }).clock.start
        = .firstEdge := by decide +kernel

/-- R2: after the change the next frame waits for the first edge. -/
theorem test_clockToReference :
    (after .clockToReference { quiet with clock := ⟨.internal, 3, 4800, .given⟩ }).clock
      = ⟨.reference, 0, 4800, .firstEdge⟩ := by decide +kernel

theorem test_searchFramePosition :
    (after (.searchFramePosition .a (some 0xB62E)) quiet).portA.qualifying = 1 := by decide +kernel

/-- R6: the 8th frame gives LOCKED at fill 1, and the next expectation is its counter + 1. -/
theorem test_portLock :
    let r := (after (.portLock .a (zeroFrame 0 0).body) { quiet with portA := { quiet.portA with qualifying := 8 } }).portA
    (r.sync, r.store.length, r.centred, r.expected) = (.locked, 1, false, some 1) := by
  simp only [after, exec, execPortLock, portLock, zeroFrame_intact]
  decide +kernel

/-- Worked sequence of chapter 1: the arrival that brings the fill to 32 sets the centred flag. -/
theorem test_linkFrameArrival_centres :
    let r := (after (.linkFrameArrival .a (some (zeroFrame 0 0))) (portA .locked 0 0 31 false)).portA
    (r.store.length, r.centred, r.expected) = (32, true, some 1) := by
  simp only [after, exec, execLinkFrameArrival, linkFrameArrival, zeroFrame_arrives]
  decide +kernel

/-- R8: a counter other than the expected one enters VALID with an error. -/
theorem test_linkFrameArrival_discontinuity :
    let r := (after (.linkFrameArrival .a (some (zeroFrame 0 0))) (portA .locked 0xFE 0 0 false)).portA
    (r.store.map fun e => (e.mark, e.error), r.expected) = ([(.valid, true)], some 1) := by
  simp only [after, exec, execLinkFrameArrival, linkFrameArrival, zeroFrame_arrives]
  decide +kernel

/-- R7, R13: the change to SEARCH empties the store. -/
theorem test_portLossOfSync :
    let r := (after (.portLossOfSync .a) (portA .locked 0 4 32 true)).portA
    (r.sync, r.store.length, r.centred) = (.search, 0, false) := by decide +kernel

/-- R10, R13, R21: a read takes the oldest entry with its mark and counts its error; a port in SEARCH gives an ABSENT frame. -/
theorem test_outputFrame_reads :
    let t := after .outputFrame (due (portA .locked 0 0 32 true))
    (t.portA.store.length, t.portA.errorsNow, t.frame, t.output.counter) = (31, 1, 1, 1) ∧
      (t.portA.frameRead.map fun f => f.mark, t.portB.frameRead.map fun f => f.mark) = (some .valid, some .absent) := by
  decide +kernel

/-- R1: under REFERENCE no frame begins without its edge. -/
theorem test_outputFrame_waits : after .outputFrame quiet = quiet := outputFrame_of_waiting (by decide +kernel)

/-- Worked sequence of chapter 1: the third errored subblock of a run makes a LOCKED port UNRELIABLE. -/
theorem test_subblockEnd_unreliable :
    let s := portA .locked 0 0 32 true
    let t := after (.subblockEnd CloseItem.all)
      { s with frame := 4800, portA := { s.portA with errorsNow := 70, erroredRun := 2 } }
    (t.portA.sync, t.portA.erroredRun, t.portA.errorsLast, t.frame, t.subblock) = (.unreliable, 3, 70, 0, 1) := by
  decide +kernel

/-- R35, R38: the entry close ends the entry subblock and appends nothing. -/
theorem test_subblockEnd_entryClose :
    let t := after (.subblockEnd CloseItem.all)
      { idle3.setService 3 ((idle3.service 3).started true) with frame := 4800 }
    ((t.service 3).entryMarker, (t.service 3).lifecycle, (t.service 3).meas.ring.length) = (false, .priming, 0) := by
  decide +kernel

/-! ### Requests (chapters 2 to 8) -/

theorem test_unknownKind : replies (after .unknownKind (asked quiet 0x55 3 [1])) = [[0x01]] := by decide +kernel

/-- R171: vendor 0x0B5A, part 0x0016, revision 1, capacity 96, store status BLANK. -/
theorem test_identify :
    replies (after .identify (asked quiet 0x01 0xFF [])) = [[0x00, 0x0B, 0x5A, 0x00, 0x16, 0x01, 96, 2]] := by decide +kernel

/-- R173: the port record of a port after reset. -/
theorem test_query_port :
    replies (after (.query .low) (asked quiet 0x02 0xF1 [])) = [[0x00, 0, 0, 0, 0, 0, 0, 0, 0, 0, 0, 0, 0, 48]] := by
  decide +kernel

theorem test_query_unit : replies (after (.query .low) (asked quiet 0x02 0xF2 [])) = [[0x03]] := by decide +kernel

/-- R174: a service has no page 19. -/
theorem test_peek_range : replies (after .peek (asked quiet 0x03 5 [19])) = [[0x05, 19]] := by decide +kernel

/-- R73: an empty ring is one zero byte. -/
theorem test_peek_ring : replies (after .peek (asked quiet 0x03 5 [0])) = [[0x00, 0]] := by decide +kernel

/-- Worked sequence of chapter 2, request 1: cost 8. -/
theorem test_map : replies (after .map (asked quiet 0x10 0 [2, 0, 0, 0, 1, 1, 1])) = [[0x00, 8]] := by decide +kernel

/-- Worked sequence of chapter 2, request 5: output slot 9 named twice, owner service 3 channel 0. -/
theorem test_map_conflict :
    replies (after .map (asked quiet 0x10 3 [2, 10, 0xFF, 9, 11, 0xFF, 9])) = [[0x06, 2, 9, 3, 0]] := by decide +kernel

/-- R31: an Unmap frees the slots. -/
theorem test_unmap :
    let t := after .unmap (asked idle3 0x11 3 [])
    (replies t, (t.service 3).lifecycle, t.owner .portA 0) = ([[0x00]], .vacant, none) := by decide +kernel

/-- R97: a Profile in IDLE is in force at once. -/
theorem test_profile :
    let t := after (.profile .low) (asked idle3 0x12 3 (Profile.payload { Profile.factory with initialGain := 420 }))
    (replies t, (t.service 3).profile.initialGain, (t.service 3).gain.rampEnd) = ([[0x00, 0]], 420, 1700591) := by
  decide +kernel

/-- R95: a target that differs is refused while PROTECT is high. -/
theorem test_profile_protected :
    replies (after (.profile .high) (asked idle3 0x12 3 (Profile.payload { Profile.factory with target := -2000 })))
      = [[0x08, 1]] := by decide +kernel

theorem test_start :
    let t := after .start (asked idle3 0x13 3 [])
    (replies t, (t.service 3).lifecycle, t.committed) = ([[0x00, 2, 0xFF]], .priming, 8) := by decide +kernel

/-- R36: a Start that the budget cannot take reports the cost and the units free. -/
theorem test_start_capacity :
    replies (after .start (asked { idle3 with committed := 89 } 0x13 3 [])) = [[0x07, 8, 7]] := by decide +kernel

theorem test_halt :
    replies (after .halt (asked (running3 .active) 0x14 3 [])) = [[0x00, 6, 0xFF]] := by decide +kernel

/-- R40: Bypass of a DROPPED service sets its resume state. -/
theorem test_bypass_dropped :
    replies (after .bypass (asked (running3 .dropped) 0x15 3 [])) = [[0x00, 5, 4]] := by decide +kernel

/-- R89: RESTART takes an ACTIVE service back to PRIMING. -/
theorem test_mark_restart :
    let t := after .mark (asked (running3 .active) 0x16 3 [3])
    (replies t, (t.service 3).gain.regain) = ([[0x00, 2, 0xFF]], true) := by decide +kernel

theorem test_select : replies (after .select (asked (running3 .active) 0x17 3 [2])) = [[0x00, 2, 0]] := by decide +kernel

theorem test_ports :
    let t := after .ports (asked quiet 0x20 0xF1 [0x12, 0xC0])
    (replies t, t.portB.errorLimit, t.portA.errorLimit) = ([[0x00]], 4800, 48) := by decide +kernel

theorem test_ports_range : replies (after .ports (asked quiet 0x20 0xF0 [0x12, 0xC1])) = [[0x05]] := by decide +kernel

/-- R182: a waiting READY is removed when its kind is masked. -/
theorem test_notify :
    let t := after .notify (asked { State.reset with control := ControlPort.afterReset } 0x21 0xFF [0xFE])
    (replies t, t.notices.entries, t.notices.mask) = ([[0x00, 0xFE, 1]], [], 0xFE) := by decide +kernel

/-! ### Store and reset (chapter 11) -/

theorem test_store : (after (.store .low) (asked quiet 0x30 0xFF [])).control.storeJob.isSome = true := by decide +kernel

theorem test_store_protected : replies (after (.store .high) (asked quiet 0x30 0xFF [])) = [[0x08]] := by decide +kernel

/-- R186: FAULT with store status INVALID, and an image whose check word fails. -/
theorem test_storeComplete_fault :
    let t := after (.storeComplete false) storing
    (replies t, t.storeStatus, t.flash.status) = ([[0x0B, 1]], .invalid, .invalid) := by
  have h : after (.storeComplete false) storing = storeComplete false storing := rfl
  have hj : storing.control.storeJob = some { image := quiet.snapshot, tag := 20, unit := 0xFF } := rfl
  simp only [h, storeComplete, hj, show storing.operating = true from rfl, if_true, Bool.false_eq_true, if_false,
    Flash.spoilt_status, replies, State.kick_flash, State.kick_storeStatus, State.appendReply_flash,
    State.appendReply_storeStatus]
  decide +kernel

/-- R184, R186: OK with store status VALID, the check word of the image being correct. -/
theorem test_storeComplete_ok :
    let t := after (.storeComplete true) storing
    (replies t, t.storeStatus, t.flash.status) = ([[0x00, 0]], .valid, .valid) := by
  have h : after (.storeComplete true) storing = storeComplete true storing := rfl
  have hj : storing.control.storeJob = some { image := quiet.snapshot, tag := 20, unit := 0xFF } := rfl
  simp only [h, storeComplete, hj, show storing.operating = true from rfl, if_true, Flash.sealed_status, replies,
    State.kick_flash, State.kick_storeStatus, State.appendReply_flash, State.appendReply_storeStatus]
  decide +kernel

/-- R34, R184: a load of a sound image gives its map back, and one with damaged items the defaults in their place. -/
theorem test_load :
    let t := quiet.loadedFrom (some idle3.snapshot)
    let u := quiet.loadedFrom (some damaged)
    ((t.service 3).lifecycle, (t.service 3).cost, t.owner .portB 1) = (.idle, 8, some { service := 3, channel := 1 }) ∧
      ((u.service 3).lifecycle, u.owner .portA 0, (u.service 3).profile, u.portA.errorLimit, u.portB.errorLimit)
        = (.vacant, none, Profile.factory, 48, 48) := by decide +kernel

theorem test_reset :
    let t := after .reset (asked quiet 0x31 0xFF [1])
    (replies t, t.control.resetPhase) = ([[0x00]], .waiting .reload) := by decide +kernel

/-- R188, R189: KEEP keeps the map, and READY carries the cause REQUEST. -/
theorem test_resetRequestActs :
    let t := after .resetRequestActs { running3 .active with control := { quiet.control with resetPhase := .due .keep } }
    ((t.service 3).lifecycle, t.committed, t.notices.entries.map fun e => e.detail)
      = (.idle, 0, [.ready .request .blank]) := by decide +kernel

/-- R3, R162: no edge within 3 frame periods, RATE1 high and RATE0 low. -/
theorem test_powerOn :
    let t := after (.powerOn .high .low (some 4)) { quiet with pins := { quiet.pins with supplyGood := false } }
    (t.clock.source, t.rate, t.resetCause) = (.internal, .bps230400, .power) := by decide +kernel

theorem test_resetPinAssert :
    let t := after .resetPinAssert State.reset
    (t.attn, t.operating, t.notices.entries) = (.high, false, []) := by decide +kernel

theorem test_resetPinRelease :
    let t := after (.resetPinRelease .low .high (some 3)) (after .resetPinAssert quiet)
    (t.clock.source, t.rate, t.resetCause) = (.reference, .bps115200, .pin) := by decide +kernel

/-- R186: a Store in flight at a loss of power leaves an image whose check word fails. -/
theorem test_lossOfPower : (after .lossOfPower storing).flash.status = .invalid :=
  Flash.spoilt_status quiet.snapshot

/-! ### The control port's line (chapter 9) -/

/-- R163: the check of the READY frame makes the receiver's CRC 0. -/
theorem test_controlFrameComplete :
    let t := after .controlFrameComplete (quiet.afterBytes (ControlFrame.bytes readyFrame))
    (t.control.inbox, t.control.receiver) = ([readyFrame], .hunt) := by decide +kernel

theorem test_controlByteReceived_stopLow : after (.controlByteReceived 0xA5 .low) quiet = quiet := rfl

theorem test_lengthFault :
    replies (after .lengthFault (quiet.afterBytes [0xA5, 241])) = [[2]] := by decide +kernel

theorem test_frameTimeout : replies (after .frameTimeout (quiet.afterBytes [0xA5, 0])) = [[1]] := by decide +kernel

/-- R180: READY leaves the set when its frame has gone. -/
theorem test_transmitFrameEnd :
    let t := after .transmitFrameEnd State.reset
    (t.control.sending, t.notices.entries, t.attn) = (.idle, [], .high) := by decide +kernel

/-! ### Figures of the book -/

/-- Worked figures of chapters 4, 5, 6, 7 and 8. -/
theorem test_conv : conv (1082 / 100000) = -2035 ∧ conv (2 / 1000) = -2768 ∧ conv (4 / 1000) = -2467 := by decide +kernel
theorem test_feedLevel : feedLevel (625 / 10000) = -1204 ∧ feedLevel (25 / 100000000) = -6602 := by decide +kernel
theorem test_ceiling : ceilingAmplitude (-300) = 5938680 ∧ ceilingAmplitude (-1) = 8378956 := by decide +kernel
theorem test_requiredGain : requiredGain 5938680 8250000 = 754806 ∧ requiredGain 8378956 8388608 = 1047369 := by
  decide +kernel
/-- One channel of a segment. -/
def oneLane (us : List Int) : Segment :=
  { lanes := [us], peak := none, required := none, output := none }

/-- R121, R122: the worked figure of chapter 7, whose peak lies between two samples. -/
theorem test_segmentPeak :
    intervalPoints 6000000 8000000 8000000 6000000 = [8187500, 8250000, 8187500] ∧
      segmentPeak none
        (oneLane ([0, 0, 0, 2000000, 6000000, 8000000, 8000000, 6000000, 2000000] ++ List.replicate 7 0)) (oneLane [0]) =
          8250000 := by decide +kernel

/-- R120 to R122 by hand: a steady signal has its own peak, and overshoots where it begins after a clearing or ends; in both the
largest point is 137000 / 128. -/
theorem test_segmentPeak_edges :
    let steady := oneLane (List.replicate 16 1000)
    segmentPeak (some steady) steady (oneLane [1000]) = 1000 ∧ segmentPeak none steady (oneLane [1000]) = 1070 ∧
      segmentPeak (some steady) steady (oneLane [0]) = 1070 := by decide +kernel

theorem test_faded : faded (.fadeIn 112) 4000000 = 941667 ∧ faded (.fadeOut 479) 4000000 = 0 := by decide +kernel
theorem test_clip : saturate 8388608 = 8388607 ∧ saturate (-8388608) = -8388608 := by decide +kernel
theorem test_binOf : (binOf (-2467)).val = 453 := by decide +kernel

/-! ### Witnesses: states that meet the hypotheses of the obligations, clause by clause, at boundary values -/

/-- Any request that `asked` puts in front is served. -/
theorem serving_asked (s : State) (ho : s.operating = true) (hp : s.control.resetPhase = .none)
    (hr : replyCount s.control.replies ≤ 6) (kind unit : Byte) (payload : List Byte) :
    Serving (asked s kind unit payload) kind { kind, tag := 7, unit, payload } [] :=
  ⟨ho, hp, hr, rfl, rfl⟩

/-- Six replies may wait when a request is served. -/
def sixReplies : State :=
  { quiet with
    control := { quiet.control with replies := List.replicate 6 { frame := readyFrame, mark := .ordinary } } }

theorem serving_sixReplies (kind unit : Byte) (payload : List Byte) :
    Serving (asked sixReplies kind unit payload) kind { kind, tag := 7, unit, payload } [] :=
  serving_asked sixReplies rfl rfl (by decide) kind unit payload

theorem serving_quiet (kind unit : Byte) (payload : List Byte) :
    Serving (asked quiet kind unit payload) kind { kind, tag := 7, unit, payload } [] :=
  serving_asked quiet rfl rfl (by decide) kind unit payload

theorem serving_idle3 (kind unit : Byte) (payload : List Byte) :
    Serving (asked idle3 kind unit payload) kind { kind, tag := 7, unit, payload } [] :=
  serving_asked idle3 rfl rfl (by decide) kind unit payload

theorem serving_running3 (l : Lifecycle) (kind unit : Byte) (payload : List Byte) :
    Serving (asked (running3 l) kind unit payload) kind { kind, tag := 7, unit, payload } [] :=
  serving_asked (running3 l) rfl rfl (Nat.zero_le 6) kind unit payload

theorem running3_service (l : Lifecycle) (kind unit : Byte) (payload : List Byte) :
    (asked (running3 l) kind unit payload).service 3 = live l := rfl

theorem witness_stepRunsTheFrontCommand :
    ({ quiet with pending := [.missingEdge, .identify] } : State).pending = .missingEdge :: [.identify] ∧
      quiet.pending = [] := ⟨rfl, rfl⟩

theorem witness_clockCommands :
    quiet.operating = true ∧
      (({ quiet with clock := ⟨.reference, 2, 0, .window⟩ } : State).clock.missing < 3 ∧ (1 / 4 : Rat) ≤ 1 / 4) ∧
      (({ quiet with clock := ⟨.reference, 0, 4800, .firstEdge⟩ } : State).clock.start = .firstEdge ∧ (0 : Rat) ≤ 0) ∧
      ({ quiet with clock := ⟨.reference, 3, 0, .given⟩ } : State).clock.start = .given ∧
      quiet.clock.start ≠ .given ∧
      ({ quiet with clock := ⟨.internal, 3, 4799, .given⟩ } : State).clock.returns < 4800 ∧
      ({ quiet with clock := ⟨.reference, 3, 0, .given⟩ } : State).clock.missing = 3 ∧
      ({ quiet with clock := ⟨.internal, 3, 4800, .given⟩ } : State).clock.returns = 4800 := by decide +kernel

theorem witness_searchLockAndLoss :
    quiet.operating = true ∧ (quiet.receiver .b).sync = .search ∧ (quiet.receiver .b).qualifying < 8 ∧
      ({ quiet with portA := { quiet.portA with qualifying := 8 } } : State).portA.qualifying = 8 ∧
      (portA .unreliable 0 3 64 true).portA.badRun = 3 ∧ (zeroFrame 0 0).sync = 0xB62E ∧
      (portA .locked 0 4 0 false).portA.badRun = 4 ∧ (portA .locked 0 4 0 false).portA.sync ≠ .search := by
  decide +kernel

theorem witness_arrivalTable :
    (portA .locked 0 3 31 false).operating = true ∧ (portA .locked 0 3 31 false).portA.sync ≠ .search ∧
      (portA .locked 0 3 31 false).portA.badRun < 4 ∧ (zeroFrame 0 0).sync = 0xB62E ∧
      LinkBody.intact (zeroFrame 0 0).body = true ∧ LinkBody.intact (zeroFrame 0 1).body = false ∧
      (portA .unreliable 0 2 64 true).portA.badRun < 3 ∧
      ({ zeroFrame 0 0 with sync := 0xB62F } : LinkFrame).sync ≠ 0xB62E :=
  ⟨rfl, by decide, by decide, rfl, zeroFrame_intact, zeroFrame_damaged, by decide, by decide⟩

/-- For SubblockEndAssessesPorts and SubblockEndClosesEveryService. -/
theorem witness_subblockEnd :
    ({ running3 .active with frame := 4800 } : State).operating = true ∧
      ({ running3 .active with frame := 4800 } : State).frame = 4800 ∧ CloseItem.isOrder CloseItem.all.reverse = true ∧
      (({ running3 .active with frame := 4800 } : State).service 3).lifecycle.running = true ∧
      .state .dropped (some .active) .noFeed 0 0 ∈ ((live .active).close false false 0).notices := by decide +kernel

/-- For OutputFrameReadsAndRuns and OutputFrameSent: an ABSENT read, a repeat, an entry, and the last frame of a subblock. -/
theorem witness_outputFrame :
    (due (portA .locked 0 0 32 true)).operating = true ∧ (due (portA .locked 0 0 32 true)).clock.start = .given ∧
      (due (portA .locked 0 0 32 true)).frame < 4800 ∧ (due (portA .locked 0 0 31 false)).portA.centred = false ∧
      ((due (portA .locked 0 0 0 true)).portA.centred, (due (portA .locked 0 0 0 true)).portA.store) = (true, []) ∧
      (due { running3 .active with frame := 4799 }).frame < 4800 := by decide +kernel

/-- R146, R152 by hand: halfway through a crossfade from MAIN at 100 to RESERVE at 900 on channel 0, and after it. -/
theorem test_selected :
    let onReserve := fun crossfade : Option Crossfade =>
      ({ live .active with feeds := { (live .active).feeds with inUse := .reserve, crossfade } } : Service).selected
        (Slots.silence.set 0 100) (Slots.silence.set 0 900)
    onReserve (some { old := .main, position := 239 }) = [500, 0] ∧ onReserve none = [900, 0] := by decide +kernel

theorem witness_fastPathUnits :
    ∃ after out, (live .active).fastPath 0 Slots.silence Slots.silence = (after, out) ∧ out = [0, 0] ∧
      (live .active).feeds.mainMonitor.isSome = true ∧ (live .active).feeds.reserveMonitor.isSome = true :=
  ⟨_, _, rfl, by decide +kernel, by decide +kernel, by decide +kernel⟩

theorem witness_roundingAndRamps :
    0 < 1 ∧ 4799 < 4800 ∧ 479 < 480 ∧ (FadeState.fadeOut 479 = .fadeIn 479 ∨ FadeState.fadeOut 479 = .fadeOut 479) ∧
      (-8388608 : Int) ≤ 8388607 ∧ (0 : Int) ≤ 8329135 := by decide

theorem witness_linearGainIsExact :
    (-2400 : Int) ≤ -2400 ∧ (-2400 : Int) < 1800 ∧ (1800 : Int) ≤ 1800 ∧ (-1200 : Int) ≤ -1200 ∧ (0 : Int) ≤ 0 := by decide

theorem witness_logarithmsAreExact :
    (0 : Rat) < 1 / 10 ^ 30 ∧ (1 : Int) ≤ 1 ∧ (1 : Int) ≤ 1048576 ∧ (1048576 : Int) ≤ 1048576 := by decide +kernel

theorem witness_integratedLoudnessIsExact :
    [((799 : Nat), (1 : Nat))] ≠ [] ∧ (∀ e ∈ [((799 : Nat), (1 : Nat))], e.1 < 800 ∧ 0 < e.2) ∧
      convRelative (meanBound 0 64 [(799, 1)]) = convRelative (meanBound 1 64 [(799, 1)]) ∧ 0 < 4294967295 := by
  decide +kernel

/-- One block in bin 300 and one in bin 600. -/
def twoBins : Vector Nat 800 :=
  ((Vector.replicate 800 0).set 300 1).set 600 1

theorem twoBins_occupied : occupied 0 twoBins.toList = [(300, 1), (600, 1)] := by decide +kernel

/-- For IntegratedLoudnessIsExact: at every gate both bins, the upper one or none are left, and each mean is decided. -/
theorem witness_gatedLoudness :
    (∃ b : Fin 800, twoBins.get b ≠ 0) ∧
      ∀ gate : Int,
        MeanDecided ((occupied 0 twoBins.toList).filter fun e => decide (gate ≤ -6995 + 10 * (e.1 : Int))) := by
  refine ⟨⟨300, by decide +kernel⟩, fun gate => ⟨64, by decide, ?_⟩⟩
  rw [twoBins_occupied]
  by_cases h3 : gate ≤ -3995
  · have h6 : gate ≤ -995 := by omega
    simp only [List.filter_cons, Nat.cast_ofNat, List.filter_nil,
      show decide (gate ≤ -6995 + 10 * 300) = true by simpa using h3,
      show decide (gate ≤ -6995 + 10 * 600) = true by simpa using h6, if_true]
    decide +kernel
  · by_cases h6 : gate ≤ -995
    · simp only [List.filter_cons, Nat.cast_ofNat, List.filter_nil,
        show decide (gate ≤ -6995 + 10 * 300) = false by simpa using h3,
        show decide (gate ≤ -6995 + 10 * 600) = true by simpa using h6, if_true, Bool.false_eq_true, if_false]
      decide +kernel
    · simp only [List.filter_cons, Nat.cast_ofNat, List.filter_nil,
        show decide (gate ≤ -6995 + 10 * 300) = false by simpa using h3,
        show decide (gate ≤ -6995 + 10 * 600) = false by simpa using h6, Bool.false_eq_true, if_false]
      decide +kernel

/-- R79: the relative gate leaves bin 300 out, more than 1000 below the ungated mean, so that the upper centre remains. -/
theorem test_relativeGate : integratedLoudness twoBins.toList = -995 := by decide +kernel

theorem witness_limitedSampleWithinCeiling :
    (0 : Int) ≤ 5938680 ∧ (-8000000 : Int).natAbs ≤ 8250000 ∧ 15 < 16 ∧ (0 : Int) ≤ 0 ∧
      (754806 : Int) ≤ requiredGain 5938680 8250000 ∧ (0 : Int) ≤ 754806 ∧ requiredGain 5938680 8250000 < 1048576 := by
  decide +kernel

/-- A queue of one entry that the first frame of a segment has begun, at the last position of a fade. -/
def begunQueue : Limiter :=
  { (live .active).lim with queue := [Segment.begun [5, -5]], fade := .fadeOut 479 }

/-- A part whose service 3 is one frame into a segment. -/
def begun3 : State :=
  due { idle3.setService 3 { live .active with lim := begunQueue } with committed := 8, frame := 4785 }

theorem factory_valid : Profile.factory.Valid := by
  unfold Profile.Valid Profile.factory
  decide

theorem begun3_others (n : ServiceIndex) (h : n ≠ 3) : begun3.service n = Service.factory := by
  have h1 : begun3.service n = (idle3.setService 3 { live .active with lim := begunQueue }).service n := rfl
  rw [h1, State.service_setService_other _ _ h]
  unfold idle3 State.mapService
  rw [State.service_setService_other _ _ h]
  show (Vector.replicate 16 Service.factory)[n.val] = _
  simp

theorem begun3_queue : begunQueue.Lawful (ceilingAmplitude Profile.factory.peakCeiling) 1 2 := by
  have only : ∀ seg ∈ begunQueue.queue, seg = Segment.begun [5, -5] := fun seg h => List.mem_singleton.mp h
  refine ⟨by decide +kernel, fun seg h => ?_, by simp [begunQueue], by simp [begunQueue], by simp, by decide +kernel,
    fun h8 => absurd h8 (by decide), fun newest hn => ?_⟩
  · rw [only seg h]
    exact ⟨fun pk hpk => absurd (show none = some pk from hpk) (by simp), fun _ => rfl⟩
  · rw [only newest (List.mem_of_getLast? hn)]
    exact ⟨rfl, by decide +kernel⟩

/-- For OutputPeaksWithinCeiling and LimiterLawKept. -/
theorem witness_limiterLaw :
    (begun3.operating = true ∧ begun3.clock.start = .given ∧ begun3.frame < 4800 ∧
      (begun3.service 3).lifecycle.running = true ∧ begun3.owner .output 0 = some { service := 3, channel := 0 }) ∧
      ∀ n, (begun3.service n).LimiterLaw begun3.frame := by
  refine ⟨by decide +kernel, fun n => ?_⟩
  by_cases h : n = 3
  · subst h
    have hs : begun3.service 3 = { live .active with lim := begunQueue } := State.service_setService_same _ _ _
    rw [hs]
    refine ⟨fun _ => by decide +kernel, factory_valid, fun p hp => ?_, fun k hk => ?_, fun _ => ?_⟩
    · exact absurd (show none = some p from hp) (by simp)
    · obtain hk | hk := hk
      · exact absurd hk (by simp [begunQueue])
      · have : 479 = k := FadeState.fadeOut.inj hk
        exact this ▸ by decide
    · rw [if_neg (by decide +kernel)]
      exact begun3_queue
  · rw [begun3_others n h]
    exact ⟨fun hv => absurd rfl hv, factory_valid, fun p hp => absurd (show none = some p from hp) (by simp),
      fun k hk => absurd hk (by simp [Service.factory]), fun hr => absurd hr (by decide)⟩

/-- An entry with both lanes full. -/
def fullSegment : Segment :=
  { lanes := [List.replicate 16 3, List.replicate 16 4], peak := none, required := none, output := none }

/-- An entry whose peak is formed. -/
def waitingSegment : Segment :=
  { fullSegment with peak := some 4, required := some 1048576 }

/-- An entry in OUTPUT. -/
def outputSegment : Segment :=
  { waitingSegment with output := some { rampStart := 1048576, gain := 1048576 } }

/-- For the peak in SegmentBoundary: a segment with one before it. -/
theorem witness_segmentPeak :
    (∀ lane ∈ waitingSegment.lanes, lane.length = 16) ∧ (∀ lane ∈ fullSegment.lanes, lane.length = 16) ∧
      1 < fullSegment.lanes.length ∧ 15 < 16 := by decide

/-- For SegmentBoundary: an empty queue, a first frame with fewer than 8 entries and with 8, a frame within a segment with none in
OUTPUT, and the 16th frame of a segment in OUTPUT. -/
theorem witness_segmentBoundary :
    (∃ l : Limiter, l.queue = []) ∧
    (∃ l : Limiter, l.queue = [] ++ [Segment.begun [1, 2]] ∧ 0 < 1 ∧
      [({ Segment.begun [1, 2] with
          lanes := List.zipWith (fun lane u => lane ++ [u]) (Segment.begun [1, 2]).lanes [3, 4] } : Segment)].head?.map
            (fun seg => seg.output) = some none) ∧
    (∃ l : Limiter, l.queue = outputSegment :: List.replicate 6 waitingSegment ++ [Segment.begun [1, 2]] ∧ 15 < 16 ∧
      outputSegment.output = some { rampStart := 1048576, gain := 1048576 }) ∧
    (∃ l : Limiter, l.queue = [] ++ [fullSegment] ∧ fullSegment.stage = .complete) ∧
      ∃ l : Limiter, l.queue = List.replicate 6 waitingSegment ++ [fullSegment] ∧
        (List.replicate 6 waitingSegment ++ [waitingSegment, Segment.begun [1, 2]]).length = 8 ∧
        waitingSegment.required = some 1048576 :=
  ⟨⟨{ begunQueue with queue := [] }, rfl⟩, ⟨{ begunQueue with queue := [Segment.begun [1, 2]] }, rfl, by decide, rfl⟩,
    ⟨{ begunQueue with queue := outputSegment :: List.replicate 6 waitingSegment ++ [Segment.begun [1, 2]] }, rfl, by decide,
      rfl⟩,
    ⟨{ begunQueue with queue := [fullSegment] }, rfl, rfl⟩,
    { begunQueue with queue := List.replicate 6 waitingSegment ++ [fullSegment] }, rfl, rfl, rfl⟩

/-- For the statements about a close: every state it can read, with and without entry marker. -/
theorem witness_close (l : Lifecycle) :
    (live l).lifecycle = l ∧ (live l).entryMarker = false ∧ ({ live l with entryMarker := true } : Service).entryMarker = true ∧
      (live l).meas.ring.length ≤ 30 ∧ (live l).pendingProfile = none ∧ (live l).feeds.mode = .auto ∧
      (live l).feeds.mainMonitor.isSome = true ∧ (live l).feeds.reserveMonitor.isSome = true := by
  cases l <;> decide +kernel

/-- A service with a full ring of one power, and a total of 299. -/
def loud (l : Lifecycle) : Service :=
  { live l with
    meas := { (live l).meas with ring := List.replicate 30 (4 / 1000), momentary := some (-2467), shortTerm := some (-2467) }
    integ := { (live l).integ with total := 299, integrated := some (-2467) }
    pendingProfile := some { Profile.factory with gainFloor := -600, peakCeiling := -300 } }

/-- For IntegrationAndDeviation and GainAtClose: a gating block at or above the gate makes integration ready at 300, below
the gate it counts nothing, and a step is steered. -/
theorem witness_integrationAndGain :
    ((loud .active).close true true 9).service.meas.momentary = some (-2592) ∧
      ((loud .active).close true true 9).service.integ.total = 300 ∧
      ((loud .active).close true true 9).service.integ.integrated.isSome = true ∧
      ((live .active).close true true 9).service.meas.momentary = none ∧
      ({ Profile.factory with gainFloor := -600, peakCeiling := -300 } : Profile).target - 1500 ≤ (-2592 : Int) := by
  decide +kernel

theorem witness_gainAtClose_profile :
    ({ Profile.factory with gainFloor := -600, peakCeiling := -300 } : Profile).Valid ∧
      (loud .active).lifecycle.running = true := by
  unfold Profile.Valid
  decide +kernel

theorem witness_regainStep :
    ({ live .priming with gain := { (live .priming).gain with regain := true } } : Service).gain.regain = true ∧
      (live .priming).lifecycle = .priming ∧ (live .priming).entryMarker = false := by decide +kernel

/-- For LimiterAtClose: a ceiling change with a WAITING entry and none in OUTPUT. -/
theorem witness_limiterAtClose :
    ∃ sv : Service, sv.pendingProfile.isSome = true ∧ sv.lifecycle = .halting ∧ sv.lim.queue = [waitingSegment] ∧
      ∀ seg ∈ sv.lim.queue, seg.output = none :=
  ⟨{ loud .halting with lim := { (live .halting).lim with queue := [waitingSegment] } }, by decide +kernel⟩

/-- For AutoFeedDecision: a rank switch, an auto-return at the return hold, no feed, and a stay. -/
theorem witness_autoFeedDecision :
    ((live .active).close false true 0).service.feeds.inUse = .reserve ∧
      ({ live .active with
          feeds :=
            { (live .active).feeds with
              inUse := .reserve
              mainMonitor := some { monitor := Monitor.cleared, goodRun := 299 } } }.close true true 0).service.feeds.inUse
        = .main ∧
      ((live .active).close false false 0).service.lifecycle = .dropped ∧
      ((live .active).close true true 0).service.feeds.inUse = .main := by decide +kernel

/-- For ForcedModesAndExitCheck: a forced feed that fails, and an exit check that finds a feed. -/
theorem witness_forcedModesAndExitCheck :
    ({ live .bypass with feeds := { (live .bypass).feeds with mode := .forceReserve } }.close true false
        0).service.lifecycle = .dropped ∧
      (live .dropped).resume = some .active ∧ ((live .dropped).close true true 0).service.lifecycle = .active := by
  decide +kernel

/-- For LifecycleAtClose and LifecycleAndFeedLawsKept. -/
theorem witness_lifecycleLaw :
    (live .halting).LifecycleLaw ∧ (live .priming).LifecycleLaw ∧ (live .priming).FeedLaw ∧
      (live .halting).haltPhase = some .halt ∧
      ({ live .halting with haltPhase := some .fadeOut } : Service).LifecycleLaw := by
  unfold Service.LifecycleLaw Service.FeedLaw
  decide +kernel

theorem witness_unknownKindAndIdentify :
    Serving (asked sixReplies 0x32 0 []) 0x32 { kind := 0x32, tag := 7, unit := 0, payload := [] } [] ∧
      (0x32 : Byte) ∉ [0x01, 0x02, 0x03, 0x10, 0x11, 0x12, 0x13, 0x14, 0x15, 0x16, 0x17, 0x20, 0x21, 0x30, (0x31 : Byte)] ∧
      Serving (asked quiet 0x01 0xFF [0]) 0x01 { kind := 0x01, tag := 7, unit := 0xFF, payload := [0] } [] :=
  ⟨serving_sixReplies _ _ _, by decide, serving_quiet _ _ _⟩

/-- Units at the ends of their ranges: service 15, ports, slot tables, device, and the first unit that is none. -/
theorem witness_units :
    (15 : Byte) = BitVec.ofNat 8 (15 : ServiceIndex).val ∧ (∀ n : ServiceIndex, (16 : Byte) ≠ BitVec.ofNat 8 n.val) ∧
      (16 : Byte) ≠ 0xF0 ∧ (16 : Byte) ≠ 0xF1 ∧ (16 : Byte) ≠ 0xF2 ∧ (16 : Byte) ≠ 0xFF := by decide

/-- For QueryRequest, PeekSlotTable and PeekServicePages: payloads and pages at the ends of their ranges. -/
theorem witness_queryAndPeek (unit : Byte) (payload : List Byte) :
    Serving (asked idle3 0x02 unit payload) 0x02 { kind := 0x02, tag := 7, unit, payload } [] ∧
      Serving (asked idle3 0x03 unit payload) 0x03 { kind := 0x03, tag := 7, unit, payload } [] ∧
      (1 ≤ (1 : Byte).toNat ∧ (16 : Byte).toNat ≤ 16) ∧ 18 < (19 : Byte).toNat :=
  ⟨serving_idle3 _ _ _, serving_idle3 _ _ _, by decide, by decide⟩

/-- For MapAccepted and MapChecksAcceptExactly: an IDLE service takes the map it has. -/
theorem witness_mapAccepted :
    Serving (asked idle3 0x10 3 (mapPayload .stereo stereoMap)) 0x10
        { kind := 0x10, tag := 7, unit := 3, payload := mapPayload .stereo stereoMap } [] ∧
      ((asked idle3 0x10 3 []).service 3).lifecycle.running = false ∧
      checkMap idle3.owner 3 (mapPayload .stereo stereoMap) = .ok (.stereo, stereoMap) :=
  ⟨serving_idle3 _ _ _, by decide +kernel, by decide +kernel⟩

theorem mapFits_stereo (owner : TableId → SlotIndex → Option Owner) (n : ServiceIndex)
    (h : ∀ t (slot : SlotIndex), slot = 0 ∨ slot = 1 → ∀ o, owner t slot = some o → o.service = n) :
    MapFits owner n .stereo stereoMap := by
  refine ⟨rfl, by decide, ?_, ?_⟩
  · intro t slot i j a b ha hb hsa hsb
    have hi : i < 2 := by
      have := (List.getElem?_eq_some_iff.mp ha).1
      simpa [stereoMap] using this
    have hj : j < 2 := by
      have := (List.getElem?_eq_some_iff.mp hb).1
      simpa [stereoMap] using this
    interval_cases i <;> interval_cases j <;> simp_all [stereoMap] <;> subst ha hb <;> cases t <;>
      simp_all [ChannelMap.slotIn] <;> exact absurd (hsa.trans hsb.symm) (by decide)
  · intro t slot a o ha hs ho
    refine h t slot ?_ o ho
    simp only [stereoMap, List.mem_cons, List.not_mem_nil, or_false] at ha
    rcases ha with rfl | rfl <;> cases t <;> simp_all [ChannelMap.slotIn]

theorem idle3_owner (t : TableId) (slot : SlotIndex) :
    idle3.owner t slot =
      if slot = 0 then some { service := 3, channel := 0 }
      else if slot = 1 then some { service := 3, channel := 1 } else none := by
  cases t <;> revert slot <;> decide +kernel

theorem witness_mapFits :
    MapFits idle3.owner 3 .stereo stereoMap ∧ MapFits (fun _ _ => none) 5 .stereo stereoMap := by
  refine ⟨mapFits_stereo _ _ ?_, mapFits_stereo _ _ fun _ _ _ _ h => absurd h (by simp)⟩
  rintro t slot (rfl | rfl) o h <;> rw [idle3_owner] at h <;> simp at h <;> rw [← h]

/-- For MapRefused: each check at its first failing byte, and a conflict with service 3 at the second field. -/
theorem witness_mapRefused (payload : List Byte) :
    Serving (asked idle3 0x10 5 payload) 0x10 { kind := 0x10, tag := 7, unit := 5, payload } [] ∧
      ((asked idle3 0x10 5 payload).service 5).lifecycle.running = false ∧
      (31 : Byte).toNat < 32 ∧ 32 ≤ (32 : Byte).toNat ∧ ¬(1 % 3 = 1 ∧ (0xFE : Byte) = 0xFF) ∧
      mapFields stereoMap = [] ++ { channel := 0, table := .portA, slot := 0 } :: (mapFields stereoMap).tail ∧
      idle3.owner .portA 0 = some { service := 3, channel := 0 } ∧ (3 : ServiceIndex) ≠ 5 :=
  ⟨serving_idle3 _ _ _, (by decide +kernel : (idle3.service 5).lifecycle.running = false), by decide, by decide, by decide, by decide, by decide +kernel, by decide⟩

/-- For MapRefused: a reserve that does not go with channel 0's, and the map of the worked sequence of chapter 2, request 5, which
names output slot 9 twice. -/
theorem witness_mapRefused_reserveAndRepeat :
    let uneven : List ChannelMap :=
      [{ main := 0, reserve := some 0, output := 0 }, { main := 1, reserve := none, output := 1 }]
    let twice : List ChannelMap :=
      [{ main := 10, reserve := none, output := 9 }, { main := 11, reserve := none, output := 9 }]
    let before : List MapField :=
      [⟨0, .portA, 10⟩, ⟨0, .output, 9⟩, ⟨1, .portA, 11⟩]
    mapPayload .stereo twice = [2, 10, 0xFF, 9, 11, 0xFF, 9] ∧ uneven.length = Layout.stereo.channels ∧
      uneven.head?.map (fun ch => ch.reserve.isSome) = some true ∧
      uneven[1]?.map (fun ch => ch.reserve.isSome) = some false ∧
      (∀ a ∈ twice, ∀ b ∈ twice, a.reserve.isSome = b.reserve.isSome) ∧
      mapFields twice = before ++ ⟨1, .output, 9⟩ :: [] ∧ ⟨0, .output, 9⟩ ∈ before ∧
      ∀ x ∈ before, ∀ y ∈ before, x.table = y.table → x.slot = y.slot → x = y := by decide

theorem witness_unmapRequest (payload : List Byte) :
    Serving (asked idle3 0x11 3 payload) 0x11 { kind := 0x11, tag := 7, unit := 3, payload } [] ∧
      (idle3.service 3).lifecycle = .idle ∧ (idle3.service 15).lifecycle = .vacant ∧
      ((running3 .halting).service 3).lifecycle.running = true :=
  ⟨serving_idle3 _ _ _, by decide +kernel⟩

/-- For ProfilePayloadRoundTrip and ProfileRequest: the least and the greatest field values are read back. -/
theorem witness_profile :
    let least : Profile :=
      { target := -3100, agility := 0, riseStep := 1, fallStep := 1, freezeDepth := 500, gainFloor := -2400
        gainCeiling := 0, initialGain := -2400, peakCeiling := -1200, release := 1, silenceThreshold := -9000
        silenceTime := 10, returnHold := 10, autoReturn := false, tolerance := 50, heavyLimit := 100
        autostart := false }
    let greatest : Profile :=
      { target := -1000, agility := 100, riseStep := 200, fallStep := 600, freezeDepth := 4000, gainFloor := 0
        gainCeiling := 1800, initialGain := 1800, peakCeiling := 0, release := 65536, silenceThreshold := -3000
        silenceTime := 600, returnHold := 3000, autoReturn := true, tolerance := 1000, heavyLimit := 1200
        autostart := true }
    (profileOfPayload (Profile.payload least), profileOfPayload (Profile.payload greatest)) = (.ok least, .ok greatest) ∧
      profileOfPayload (Profile.payload { greatest with heavyLimit := 1201 }) = .error 16 := by decide +kernel

theorem witness_profileRequest (l : Lifecycle) (payload : List Byte) :
    Serving (asked (running3 l) 0x12 3 payload) 0x12 { kind := 0x12, tag := 7, unit := 3, payload } [] ∧
      ((asked (running3 l) 0x12 3 payload).service 3).lifecycle = l :=
  ⟨serving_running3 _ _ _ _, by cases l <;> rfl⟩

/-- For StartRequest: IDLE at a budget that just takes the cost and one that just does not; the other states. -/
theorem witness_startRequest (l : Lifecycle) (payload : List Byte) :
    Serving (asked { idle3 with committed := 88 } 0x13 3 []) 0x13 { kind := 0x13, tag := 7, unit := 3, payload := [] } [] ∧
      (({ idle3 with committed := 88 } : State).service 3).lifecycle = .idle ∧
      88 + (({ idle3 with committed := 88 } : State).service 3).cost = 96 ∧
      96 < 89 + (({ idle3 with committed := 89 } : State).service 3).cost ∧
      Serving (asked (running3 l) 0x13 3 payload) 0x13 { kind := 0x13, tag := 7, unit := 3, payload } [] ∧
      ((asked (running3 l) 0x13 3 payload).service 3).lifecycle = l :=
  ⟨serving_asked _ rfl rfl (by decide) _ _ _, by decide +kernel, by decide +kernel, by decide +kernel,
    serving_running3 _ _ _ _, by cases l <;> rfl⟩

/-- For HaltAndBypass, MarkRequest and SelectRequest: every lifecycle state and any payload. -/
theorem witness_lifecycleRequests (kind : Byte) (l : Lifecycle) (payload : List Byte) :
    Serving (asked (running3 l) kind 3 payload) kind { kind, tag := 7, unit := 3, payload } [] ∧
      (3 : Byte) = BitVec.ofNat 8 (3 : ServiceIndex).val ∧
      ((asked (running3 l) kind 3 payload).service 3).lifecycle = l ∧
      ((asked (running3 l) kind 3 payload).service 3).reserveMapped = true ∧ 3 < (4 : Byte).toNat ∧ 2 < (3 : Byte).toNat :=
  ⟨serving_running3 _ _ _ _, rfl, by cases l <;> rfl, by cases l <;> rfl, by decide, by decide⟩

theorem witness_serviceRequestsRefuseOtherUnits :
    Serving (asked quiet 0x17 16 []) 0x17 { kind := 0x17, tag := 7, unit := 16, payload := [] } [] ∧
      ((0x17 : Byte), Instr.select) ∈ [((0x14 : Byte), Instr.halt), (0x15, .bypass), (0x16, .mark), (0x17, .select)] ∧
      16 ≤ (16 : Byte).toNat :=
  ⟨serving_quiet _ _ _, by simp, by decide⟩

/-- For PortsAndNotifyRequests: limits 0, 1, 4800 and 4801. -/
theorem witness_portsAndNotify (payload : List Byte) :
    Serving (asked quiet 0x20 0xF1 payload) 0x20 { kind := 0x20, tag := 7, unit := 0xF1, payload } [] ∧
      Serving (asked quiet 0x21 0xFF payload) 0x21 { kind := 0x21, tag := 7, unit := 0xFF, payload } [] ∧
      256 * (0x12 : Byte).toNat + (0xC0 : Byte).toNat = 4800 ∧ 4800 < 256 * (0x12 : Byte).toNat + (0xC1 : Byte).toNat ∧
      256 * (0 : Byte).toNat + (1 : Byte).toNat = 1 :=
  ⟨serving_quiet _ _ _, serving_quiet _ _ _, by decide, by decide, by decide⟩

/-- For StoreRequestAndCompletion and ResetRequest. -/
theorem witness_storeAndReset (payload : List Byte) :
    Serving (asked quiet 0x30 0xFF payload) 0x30 { kind := 0x30, tag := 7, unit := 0xFF, payload } [] ∧
      Serving (asked storing 0x30 0xFF payload) 0x30 { kind := 0x30, tag := 7, unit := 0xFF, payload } [] ∧
      Serving (asked storing 0x31 0xFF payload) 0x31 { kind := 0x31, tag := 7, unit := 0xFF, payload } [] ∧
      quiet.control.storeJob = none ∧ storing.control.storeJob.isSome = true ∧ storing.operating = true ∧
      (1 : Byte).toNat ≤ 1 ∧ 1 < (2 : Byte).toNat :=
  ⟨serving_quiet _ _ _, serving_asked storing rfl rfl (by decide) _ _ _, serving_asked storing rfl rfl (by decide) _ _ _,
    rfl, rfl, rfl, by decide, by decide⟩

/-- For ResetActs and StartUp: KEEP, and a load of a blank flash, of an image whose check word is correct, also one with damaged
items, and of one whose check word fails. -/
theorem witness_resetActs :
    ({ running3 .active with control := { quiet.control with resetPhase := .due .keep } } : State).operating = true ∧
      ({ quiet with control := { quiet.control with resetPhase := .due .reload } } : State).flash.status = .blank ∧
      ({ quiet with flash := .sealed idle3.snapshot } : State).flash.status = .valid ∧
      ({ quiet with flash := .sealed damaged } : State).flash.status = .valid ∧
      ({ quiet with flash := .spoilt damaged } : State).flash.status = .invalid :=
  ⟨rfl, rfl, Flash.sealed_status _, Flash.sealed_status _, Flash.spoilt_status _⟩

/-- A part without supply, and one held in reset. -/
theorem witness_startUpAndSilence :
    ({ quiet with pins := ⟨false, false, .low, .high, .high⟩ } : State).pins.supplyGood = false ∧
      ({ quiet with pins := ⟨true, true, .low, .high, .high⟩ } : State).pins.resetAsserted = true ∧
      ({ quiet with pins := ⟨true, true, .low, .high, .high⟩ } : State).operating = false ∧
      ({ quiet with pins := ⟨false, true, .low, .high, .high⟩ } : State).pins.supplyGood = false ∧
      quiet.pending = [] ∧ quiet.flash = .blank := ⟨rfl, rfl, rfl, rfl, rfl, rfl⟩

theorem idle3_slotLaw : idle3.SlotLaw := by
  refine ⟨fun t slot o => ?_, ?_⟩
  · have hm : ∀ (n : ServiceIndex) (c : Nat), (idle3.service n).map[c]? = if n = 3 then stereoMap[c]? else none := by
      intro n c
      by_cases h : n = 3
      · subst h
        rfl
      · have : (idle3.service n).map = [] := by
          revert n
          decide +kernel
        simp [this, h]
    have ho : idle3.owner t slot = some o ↔ o.service = 3 ∧
        ((slot = 0 ∧ o.channel = 0) ∨ (slot = 1 ∧ o.channel = 1)) := by
      obtain ⟨n, c⟩ := o
      rw [idle3_owner]
      by_cases h0 : slot = 0
      · subst h0
        simp [eq_comm]
      · by_cases h1 : slot = 1
        · subst h1
          simp [eq_comm]
        · simp [h0, h1]
    rw [ho]
    unfold State.Names
    simp only [hm]
    constructor
    · rintro ⟨h3, ⟨rfl, hc⟩ | ⟨rfl, hc⟩⟩ <;> simp only [h3, if_true, hc] <;> cases t <;>
        exact ⟨_, rfl, rfl⟩
    · rintro ⟨ch, hch, hs⟩
      split at hch
      · next h3 =>
        refine ⟨h3, ?_⟩
        have hlt : o.channel.val < 2 := (List.getElem?_eq_some_iff.mp hch).1
        obtain ⟨n, ⟨c, hc⟩⟩ := o
        simp only at hch hlt ⊢
        interval_cases c
        · left
          cases (show some _ = some ch from hch)
          cases t <;> exact ⟨(Option.some.inj hs).symm, rfl⟩
        · right
          cases (show some _ = some ch from hch)
          cases t <;> exact ⟨(Option.some.inj hs).symm, rfl⟩
      · exact absurd hch (by simp)
  · decide +kernel

/-- For StoredConfigurationComesBack and SlotAndBudgetLawsKept. -/
theorem witness_storedConfiguration :
    idle3.SlotLaw ∧ (∀ n, (idle3.service n).profile.Valid) ∧
      (∀ p, 1 ≤ (idle3.receiver p).errorLimit ∧ (idle3.receiver p).errorLimit ≤ 4800) ∧
      ({ quiet with flash := .sealed idle3.snapshot, pins := ⟨true, true, .low, .low, .low⟩ } : State).flash
        = .written idle3.snapshot (crc16 idle3.snapshot.bytes) := by
  refine ⟨idle3_slotLaw, fun n => ?_, fun p => by cases p <;> decide +kernel, rfl⟩
  have : (idle3.service n).profile = Profile.factory := by
    revert n
    decide +kernel
  rw [this]
  exact factory_valid

theorem witness_autostart :
    ∃ sv : Service, sv.lifecycle = .idle ∧ sv.profile.autostart = true ∧ 88 + sv.cost ≤ 96 ∧ 96 < 89 + sv.cost :=
  ⟨{ idle3.service 3 with profile := { Profile.factory with autostart := true } }, by decide +kernel⟩

/-- For ControlBytesAndFrames: a LEN of 240 and of 241, and frames with a right and a wrong check. -/
theorem witness_controlBytesAndFrames :
    quiet.operating = true ∧ quiet.control.receiver = .hunt ∧ replyCount sixReplies.control.replies ≤ 7 ∧
      (quiet.afterBytes [0xA5, 240]).control.receiver = .inFrame [240] ∧ (240 : Byte).toNat ≤ 240 ∧
      (quiet.afterBytes [0xA5, 241]).control.receiver = .inFrame [241] ∧ 240 < (241 : Byte).toNat ∧
      (quiet.afterBytes (ControlFrame.bytes readyFrame)).control.receiver = .inFrame (ControlFrame.bytes readyFrame).tail ∧
      crc16 (ControlFrame.bytes readyFrame).tail = 0 ∧ crc16 [0, 1, 2, 3, 4, 5] ≠ 0 := by decide +kernel

theorem witness_framesArriveAsSent :
    quiet.operating = true ∧ quiet.control.receiver = .hunt ∧ replyCount quiet.control.replies ≤ 7 ∧
      quiet.control.inbox.length ≤ 3 ∧ (List.replicate 240 (0 : Byte)).length ≤ 240 := by decide +kernel

theorem witness_transmitterTakesNext :
    State.reset.control.sending = .notice readyFrame ∧
      State.reset.notices.entries.map (fun e => e.inFrame) = [some { raises := 0, first := none }] ∧
      (after .identify (asked quiet 0x01 0xFF [])).control.replies.length = 1 ∧
      (after .identify (asked quiet 0x01 0xFF [])).control.sending ≠ .idle ∧
      ((after .reset (asked quiet 0x31 0xFF [0])).control.replies.map fun r => r.mark) = [.reset] ∧
      quiet.control.sending = .idle ∧ quiet.control.replies = [] ∧ quiet.notices.entries = [] := by decide +kernel

/-- For TransmitterTakesNext: a Notify has removed READY while its frame is being sent (R182). -/
theorem witness_transmitterTakesNext_removed :
    let t :=
      after .notify
        { State.reset with
          control := { (asked quiet 0x21 0xFF [0xFE]).control with sending := .notice readyFrame } }
    (t.control.sending, t.notices.entries) = (.notice readyFrame, []) := by decide +kernel

/-- For RaiseActs: a masked kind, a new pair, and a pair that waits. -/
theorem witness_raiseActs :
    (0xFE : Byte).getLsbD (NoticeKind.code .ready) = false ∧ (0xFF : Byte).getLsbD (NoticeKind.code .clip) = true ∧
      quiet.notices.entries = [] ∧
      State.reset.notices.entries.map NoticeEntry.pair = [(.device, .ready)] ∧ State.reset.notices.Lawful := by
  unfold Notices.Lawful
  decide +kernel

/-- A receiver right after reset is lawful at every frame. -/
theorem afterReset_lawful (frame : Nat) : (Receiver.afterReset 48).Lawful frame := by
  simp [Receiver.Lawful, Receiver.afterReset]

/-- For TimebaseLawKept: counts at the ends of their ranges. -/
theorem witness_timebaseLaw :
    ({ portA .locked 0 4 64 true with frame := 4800, clock := ⟨.internal, 3, 4800, .given⟩ } : State).TimebaseLaw ∧
      step { portA .locked 0 4 64 true with pending := [.portLossOfSync .a] } =
        .next (after (.portLossOfSync .a) (portA .locked 0 4 64 true)) := by
  refine ⟨⟨Nat.le_refl _, ?_, ?_, ?_⟩, rfl⟩
  · simp [Clock.Lawful]
  · simp [Receiver.Lawful, portA, Receiver.afterReset]
  · exact afterReset_lawful 4800

/-- For SlotAndBudgetLawsKept: a running service holds its cost. -/
theorem witness_budgetLaw : (running3 .active).BudgetLaw ∧ (running3 .active).committed = 8 := by
  unfold State.BudgetLaw
  decide +kernel

/-- For GainAndHistogramLawsKept. -/
theorem witness_gainAndHistogramLaws : (live .active).GainLaw ∧ (live .active).integ.HistogramLaw := by
  refine ⟨⟨factory_valid, fun p hp => ?_, by decide +kernel⟩, ?_⟩
  · exact absurd (show none = some p from hp) (by simp)
  · unfold Integration.HistogramLaw
    decide +kernel

/-- For ControlAndNoticeLawsKept: a full inbox and a full reply queue. -/
theorem witness_controlLaws :
    ({ quiet.control with
        inbox := List.replicate 4 readyFrame
        replies := List.replicate 8 { frame := readyFrame, mark := .ordinary } } : ControlPort).Lawful ∧
      State.reset.notices.Lawful := by
  unfold ControlPort.Lawful Notices.Lawful
  decide +kernel

end Sys2Proof.Tests
end

section
/-! PROOF. The meaning that `exec` gives each command, by name: one equation per row of spec/opcode_table.json. -/

namespace Sys2Proof.Machine

@[simp] theorem exec_outputFrame (s : State) : exec .outputFrame s = .next (outputFrame s) := rfl

@[simp] theorem exec_missingEdge (s : State) : exec .missingEdge s = .next (missingEdge s) := rfl

@[simp] theorem exec_clockToInternal (s : State) : exec .clockToInternal s = .next (clockToInternal s) := rfl

@[simp] theorem exec_refclkEdge (before : Rat) (since : Option Rat) (s : State) :
    exec (.refclkEdge before since) s = .next (refclkEdge before since s) := rfl

@[simp] theorem exec_clockToReference (s : State) : exec .clockToReference s = .next (clockToReference s) := rfl

@[simp] theorem exec_searchFramePosition (p : Port) (bits : Option (BitVec 16)) (s : State) :
    exec (.searchFramePosition p bits) s = .next (searchFramePosition p bits s) := rfl

@[simp] theorem exec_portLock (p : Port) (body : LinkBody) (s : State) :
    exec (.portLock p body) s = .next (portLock p body s) := rfl

@[simp] theorem exec_linkFrameArrival (p : Port) (line : Option LinkFrame) (s : State) :
    exec (.linkFrameArrival p line) s = .next (linkFrameArrival p line s) := rfl

@[simp] theorem exec_portLossOfSync (p : Port) (s : State) :
    exec (.portLossOfSync p) s = .next (portLossOfSync p s) := rfl

@[simp] theorem exec_subblockEnd (order : List CloseItem) (s : State) :
    exec (.subblockEnd order) s = .next (subblockEnd order s) := rfl

@[simp] theorem exec_controlFrameComplete (s : State) :
    exec .controlFrameComplete s = .next (controlFrameComplete s) := rfl

@[simp] theorem exec_lengthFault (s : State) : exec .lengthFault s = .next (lengthFault s) := rfl

@[simp] theorem exec_frameTimeout (s : State) : exec .frameTimeout s = .next (frameTimeout s) := rfl

@[simp] theorem exec_unknownKind (s : State) : exec .unknownKind s = .next (unknownKind s) := rfl

@[simp] theorem exec_identify (s : State) : exec .identify s = .next (identifyRequest s) := rfl

@[simp] theorem exec_query (protect : PinLevel) (s : State) :
    exec (.query protect) s = .next (queryRequest protect s) := rfl

@[simp] theorem exec_peek (s : State) : exec .peek s = .next (peekRequest s) := rfl

@[simp] theorem exec_map (s : State) : exec .map s = .next (mapRequest s) := rfl

@[simp] theorem exec_unmap (s : State) : exec .unmap s = .next (unmapRequest s) := rfl

@[simp] theorem exec_profile (protect : PinLevel) (s : State) :
    exec (.profile protect) s = .next (profileRequest protect s) := rfl

@[simp] theorem exec_start (s : State) : exec .start s = .next (startRequest s) := rfl

@[simp] theorem exec_halt (s : State) : exec .halt s = .next (haltRequest s) := rfl

@[simp] theorem exec_bypass (s : State) : exec .bypass s = .next (bypassRequest s) := rfl

@[simp] theorem exec_mark (s : State) : exec .mark s = .next (markRequest s) := rfl

@[simp] theorem exec_select (s : State) : exec .select s = .next (selectRequest s) := rfl

@[simp] theorem exec_ports (s : State) : exec .ports s = .next (portsRequest s) := rfl

@[simp] theorem exec_notify (s : State) : exec .notify s = .next (notifyRequest s) := rfl

@[simp] theorem exec_store (protect : PinLevel) (s : State) :
    exec (.store protect) s = .next (storeRequest protect s) := rfl

@[simp] theorem exec_storeComplete (good : Bool) (s : State) :
    exec (.storeComplete good) s = .next (storeComplete good s) := rfl

@[simp] theorem exec_reset (s : State) : exec .reset s = .next (resetRequest s) := rfl

@[simp] theorem exec_resetRequestActs (s : State) : exec .resetRequestActs s = .next (resetRequestActs s) := rfl

@[simp] theorem exec_transmitFrameEnd (s : State) : exec .transmitFrameEnd s = .next (transmitFrameEnd s) := rfl

@[simp] theorem exec_powerOn (rate1 rate0 : PinLevel) (age : Option Rat) (s : State) :
    exec (.powerOn rate1 rate0 age) s = .next (powerOn rate1 rate0 age s) := rfl

@[simp] theorem exec_resetPinAssert (s : State) : exec .resetPinAssert s = .next (resetPinAssert s) := rfl

@[simp] theorem exec_resetPinRelease (rate1 rate0 : PinLevel) (age : Option Rat) (s : State) :
    exec (.resetPinRelease rate1 rate0 age) s = .next (resetPinRelease rate1 rate0 age s) := rfl

@[simp] theorem exec_controlByteReceived (value : Byte) (stop : PinLevel) (s : State) :
    exec (.controlByteReceived value stop) s = .next (controlByteReceived value stop s) := rfl

@[simp] theorem exec_lossOfPower (s : State) : exec .lossOfPower s = .next (lossOfPower s) := rfl

end Sys2Proof.Machine
end

section
/-! PROOF. The clock unit (R1, R2): what each of its commands does, and O3. -/

namespace Sys2Proof.Machine

/-- Under REFERENCE the missing edge of a frame that waits for its window is counted, and gives the frame its boundary (R1). -/
theorem missingEdge_of_window {s : State} (ho : s.operating = true) (hr : s.clock.source = .reference)
    (hw : s.clock.start = .window) (hm : s.clock.missing < 3) :
    missingEdge s = { s with clock := { s.clock with missing := s.clock.missing + 1, start := .given } } := by
  simp [missingEdge, ho, hr, hw, hm]

/-- No edge is missing where the next frame does not wait for one in its window. -/
theorem missingEdge_of_not_window {s : State} (hw : s.clock.start ≠ .window) : missingEdge s = s := by
  simp [missingEdge, hw]

theorem inWindow_iff {before : Rat} : inWindow before = true ↔ 0 ≤ before ∧ before ≤ 1 / 4 := by
  simp only [inWindow, Bool.and_eq_true, decide_eq_true_eq]

theorem refclkEdge_of_reference {s : State} (ho : s.operating = true) (hr : s.clock.source = .reference) (before : Rat)
    (since : Option Rat) :
    refclkEdge before since s =
      if s.clock.edgeBegins before = true then { s with clock := { s.clock with missing := 0, start := .given } }
      else s := by
  simp only [refclkEdge, ho, if_true, Clock.edge_reference hr]
  split <;> rfl

/-- Settles O3: each clause is the equation of one command of the clock unit in one of its states. -/
theorem clockCommands : Obligations.ClockCommands := by
  intro s ho
  refine ⟨fun hr hw hm => ⟨?missing, fun before since => ?window⟩, fun hr hf => ⟨?unmissed, fun before since => ?first⟩,
    fun hr hg => ⟨?due, fun before since => ?idle⟩, fun hg => ?waiting, fun hi hn before t => ?counted,
    fun hr hm => ?toInternal, fun hi hn => ?toReference⟩
  case missing => rw [exec_missingEdge, missingEdge_of_window ho hr hw hm]
  case window =>
    rw [exec_refclkEdge, refclkEdge_of_reference ho hr]
    simp only [Clock.edgeBegins, hw, hm, decide_true, Bool.and_true, inWindow_iff]
  case unmissed => rw [exec_missingEdge, missingEdge_of_not_window (by simp [hf])]
  case first =>
    rw [exec_refclkEdge, refclkEdge_of_reference ho hr]
    simp only [Clock.edgeBegins, hf, decide_eq_true_eq]
  case due => rw [exec_missingEdge, missingEdge_of_not_window (by simp [hg])]
  case idle =>
    rw [exec_refclkEdge, refclkEdge_of_reference ho hr]
    simp [Clock.edgeBegins, hg]
  case waiting => rw [exec_outputFrame, outputFrame_of_waiting hg]
  case counted => simp [refclkEdge, ho, Clock.edge, hi, hn, followsClosely]
  case toInternal => simp [clockToInternal, ho, hr, hm]
  case toReference => simp [clockToReference, ho, hi, hn]

end Sys2Proof.Machine
end

section
/-! PROOF. PORTS and NOTIFY (R9, R182): O42. -/

namespace Sys2Proof.Machine

theorem portOf_eq_none {unit : Byte} (ha : unit ≠ 0xF0) (hb : unit ≠ 0xF1) : portOf unit = none := by
  rw [portOf, if_neg ha, if_neg hb]

/-- The value of a two-byte field, most significant byte first (9.2). -/
theorem beNat_pair (high low : Byte) : beNat [high, low] = 256 * high.toNat + low.toNat := by
  simp [beNat, Nat.mul_comm]

theorem portsAct_of_no_port {f : ControlFrame} (s : State) (h : portOf f.unit = none) :
    portsAct f s = (s, Answer.plain .unit) := by
  simp [portsAct, h]

theorem portsAct_of_length {f : ControlFrame} {p : Port} (s : State) (h : portOf f.unit = some p)
    (hl : f.payload.length ≠ 2) : portsAct f s = (s, Answer.plain .length) := by
  simp [portsAct, h, hl]

theorem portsAct_of_range {f : ControlFrame} {p : Port} (s : State) (h : portOf f.unit = some p)
    (hl : f.payload.length = 2) (hr : beNat f.payload = 0 ∨ 4800 < beNat f.payload) :
    portsAct f s = (s, Answer.plain .range) := by
  simp [portsAct, h, hl, hr]

theorem portsAct_of_limit {f : ControlFrame} {p : Port} (s : State) (h : portOf f.unit = some p)
    (hl : f.payload.length = 2) (h1 : 1 ≤ beNat f.payload) (h2 : beNat f.payload ≤ 4800) :
    portsAct f s = (s.setReceiver p { s.receiver p with errorLimit := beNat f.payload }, Answer.ok []) := by
  have hr : ¬(beNat f.payload = 0 ∨ 4800 < beNat f.payload) := by omega
  simp [portsAct, h, hl, hr]

theorem notifyAct_of_other_unit {f : ControlFrame} (s : State) (h : f.unit ≠ 0xFF) :
    notifyAct f s = (s, Answer.plain .unit) :=
  if_pos h

theorem notifyAct_of_length {f : ControlFrame} (s : State) (h : f.unit = 0xFF) (hl : f.payload.length ≠ 1) :
    notifyAct f s = (s, Answer.length f) := by
  have hd : ¬f.unit ≠ deviceUnit := not_not.mpr h
  rw [notifyAct, if_neg hd]
  split
  · next hp => simp [hp] at hl
  · rfl

theorem notifyAct_of_mask {f : ControlFrame} {mask : Byte} (s : State) (h : f.unit = 0xFF) (hp : f.payload = [mask]) :
    notifyAct f s =
      ({ s with notices := s.notices.masked mask },
        Answer.ok [mask, byteOf (s.notices.entries.length - (s.notices.masked mask).entries.length)]) := by
  have hd : ¬f.unit ≠ deviceUnit := not_not.mpr h
  rw [notifyAct, if_neg hd]
  simp only [hp]

/-- A served request, with its reply written out: the KIND that its command serves with the most significant bit set, TAG and
UNIT as sent, the status and its detail (R168). -/
theorem serve_answered {s t : State} {kind : Byte} {f : ControlFrame} {rest : List ControlFrame} {a : Answer}
    {act : ControlFrame → State → State × Answer} (h : Serving s kind f rest) (hact : act f s.dequeued = (t.dequeued, a))
    (hc : t.control = s.control) (ho : t.operating = s.operating) :
    serve kind act s =
      t.answered rest { kind := kind ||| 0x80, tag := f.tag, unit := f.unit, payload := a.status.code :: a.detail }
        .ordinary := by
  obtain ⟨hop, -, -, -, rfl⟩ := id h
  exact serve_of_serving h hact hc (ho.trans hop)

/-- Settles O42: each clause is one branch of `portsAct` or `notifyAct`, served. -/
theorem portsAndNotifyRequests : Obligations.PortsAndNotifyRequests := by
  refine ⟨fun s f rest h => ⟨fun ha hb => ?unit, fun p hp => ?port⟩,
    fun s f rest h => ⟨fun hu => ?device, fun hu hl => ?length, fun mask kept hu hp hk => ?masked⟩⟩
  case unit => exact congrArg Host.Outcome.next (serve_answered h (portsAct_of_no_port _ (portOf_eq_none ha hb)) rfl rfl)
  case port =>
    have hport : portOf f.unit = some p := by cases p <;> rw [hp] <;> rfl
    refine ⟨fun hl => ?_, fun high low limit hpay hlim => ?_⟩
    · exact congrArg Host.Outcome.next (serve_answered h (portsAct_of_length _ hport hl) rfl rfl)
    have hl : f.payload.length = 2 := by rw [hpay]; rfl
    have hv : beNat f.payload = limit := by rw [hpay, hlim, beNat_pair]
    subst hv
    refine ⟨fun hr => ?_, fun h1 h2 => ?_⟩
    · exact congrArg Host.Outcome.next (serve_answered h (portsAct_of_range _ hport hl hr) rfl rfl)
    · have hact : portsAct f s.dequeued =
          ((s.setReceiver p { s.receiver p with errorLimit := beNat f.payload }).dequeued, Answer.ok []) := by
        rw [portsAct_of_limit _ hport hl h1 h2]
        cases p <;> rfl
      exact congrArg Host.Outcome.next (serve_answered h hact (State.setReceiver_control ..) (State.setReceiver_operating ..))
  case device => exact congrArg Host.Outcome.next (serve_answered h (notifyAct_of_other_unit _ hu) rfl rfl)
  case length => exact congrArg Host.Outcome.next (serve_answered h (notifyAct_of_length _ hu hl) rfl rfl)
  case masked =>
    subst hk
    have hact : notifyAct f s.dequeued =
        (({ s with notices := s.notices.masked mask } : State).dequeued,
          Answer.ok [mask, byteOf (s.notices.entries.length - (s.notices.masked mask).entries.length)]) :=
      notifyAct_of_mask _ hu hp
    exact congrArg Host.Outcome.next (serve_answered h hact rfl rfl)

end Sys2Proof.Machine
end

section
/-! PROOF. A part held in reset or without supply (R187): O47. -/

namespace Sys2Proof.Machine

theorem State.servable_of_silent {s : State} (h : s.operating = false) (kinds : Byte → Bool) :
    s.servable kinds = none := by
  simp [State.servable, h]

/-- No request is served by a silent part. -/
theorem serve_of_silent {s : State} (h : s.operating = false) (kind : Byte)
    (act : ControlFrame → State → State × Answer) : serve kind act s = s :=
  serve_of_not_servable (State.servable_of_silent h _)

/-- A silent part does nothing but start up, or fall silent once more (R187, log 1). -/
theorem exec_of_silent {s : State} (h : s.operating = false) {c : Instr} (hpower : ∀ r1 r0 age, c ≠ .powerOn r1 r0 age)
    (hrelease : ∀ r1 r0 age, c ≠ .resetPinRelease r1 r0 age) (hassert : c ≠ .resetPinAssert)
    (hloss : c ≠ .lossOfPower) : exec c s = .next s := by
  cases c with
  | powerOn r1 r0 age => exact absurd rfl (hpower r1 r0 age)
  | resetPinRelease r1 r0 age => exact absurd rfl (hrelease r1 r0 age)
  | resetPinAssert => exact absurd rfl hassert
  | lossOfPower => exact absurd rfl hloss
  | outputFrame => simp [outputFrame, h]
  | missingEdge => simp [missingEdge, h]
  | clockToInternal => simp [clockToInternal, h]
  | refclkEdge => simp [refclkEdge, h]
  | clockToReference => simp [clockToReference, h]
  | searchFramePosition => simp [searchFramePosition, h]
  | portLock => simp [portLock, h]
  | linkFrameArrival => simp [linkFrameArrival, h]
  | portLossOfSync => simp [portLossOfSync, h]
  | subblockEnd => simp [subblockEnd, h]
  | controlFrameComplete => cases hr : s.control.receiver <;> simp [controlFrameComplete, h, hr]
  | lengthFault => cases hr : s.control.receiver <;> simp [lengthFault, h, hr]
  | frameTimeout => cases hr : s.control.receiver <;> simp [frameTimeout, h, hr]
  | controlByteReceived => simp [controlByteReceived, h]
  | transmitFrameEnd => simp [transmitFrameEnd, h]
  | storeComplete => cases hj : s.control.storeJob <;> simp [storeComplete, h, hj]
  | resetRequestActs => cases hp : s.control.resetPhase <;> simp [resetRequestActs, h, hp]
  | unknownKind => simp [unknownKind, State.servable_of_silent h]
  | store => simp [storeRequest, State.servable_of_silent h]
  | reset => simp [resetRequest, State.servable_of_silent h]
  | identify | query | peek | map | unmap | profile | start | halt | bypass | mark | select | ports | notify =>
    exact congrArg _ (serve_of_silent h _ _)

/-- Without notices ATTN is high (R181). -/
theorem State.attn_of_no_entries {s : State} (h : s.notices.entries = []) : s.attn = .high := by
  simp [State.attn, h]

/-- The flash is touched only by the end of a Store in flight (R186). -/
theorem State.silenced_flash {s : State} (h : s.control.storeJob = none) : s.silenced.flash = s.flash := by
  simp [State.silenced, State.storeEnded, h]

/-- Settles O47: both falls into silence leave `State.silenced` but for the pins, and `exec_of_silent` gives the other
commands. -/
theorem silentPart : Obligations.SilentPart := by
  intro s
  refine ⟨⟨resetPinAssert s, lossOfPower s, rfl, rfl, rfl, rfl, fun v hv => ?fallen⟩,
    fun h c hpower hrelease hassert hloss => exec_of_silent h hpower hrelease hassert hloss, fun hs hr r1 r0 age => ?power⟩
  case fallen =>
    have hpins : ∃ pins, v = { s.silenced with pins := pins } := by
      rcases hv with rfl | rfl
      · exact ⟨_, rfl⟩
      · exact ⟨_, rfl⟩
    obtain ⟨pins, rfl⟩ := hpins
    refine ⟨State.attn_of_no_entries rfl, rfl, rfl, rfl, rfl, rfl, rfl, fun p => ?_, rfl, State.silenced_flash⟩
    cases p <;> rfl
  case power => simp [powerOn, hs, hr]

end Sys2Proof.Machine
end

section
/-! PROOF. The port receivers (R6 to R13): search, lock, arriving frames and loss of sync; O4 and O5. -/

namespace Sys2Proof.Machine

/-! ### A receiver with its notice (R15) -/

@[simp] theorem State.portChanged_unraised (s : State) (p : Port) (r : Receiver) :
    s.portChanged p r false = s.setReceiver p r := rfl

theorem State.portChanged_raised (s : State) (p : Port) (r : Receiver) :
    s.portChanged p r true = (s.setReceiver p r).raise (.port p) (.port r.sync r.centred) := rfl

/-! ### Arriving frames (R8, R12, R13) -/

/-- Handing an arrived frame's receiver to its port, with a raise when the frame centred the store, is the offer of its entry to
the store (R12, R13, R15). -/
theorem State.portChanged_arrived (s : State) (p : Port) (r : Receiver) (counter : BitVec 8) (slots : Slots)
    (c : Arrival) :
    s.portChanged p (r.arrived counter slots c) ((r.arrived counter slots c).centred && !r.centred) =
      s.offered p { r with expected := nextExpected r.expected counter c } (r.entryFor slots c) := by
  unfold Receiver.arrived State.offered
  rcases r.entered_cases (r.entryFor slots c) with ⟨hl, he⟩ | ⟨hl, he⟩
  · rw [he, if_neg (Nat.not_le.mpr hl)]
    split
    · next hc =>
      obtain ⟨h31, hcf⟩ : r.store.length = 31 ∧ r.centred = false := hc
      simp [State.portChanged_raised, h31, hcf]
    · next hc =>
      have hsame : (r.centred || decide (r.store.length + 1 = 32)) = r.centred := by
        cases hcf : r.centred with
        | true => rfl
        | false => simpa [hcf] using hc
      dsimp only
      rw [hsame, Bool.and_not_self, State.portChanged_unraised]
  · rw [he, if_pos hl]
    simp

theorem classify_of_bad_sync (expected : Option (BitVec 8)) {f : LinkFrame} (h : f.sync ≠ 0xB62E) :
    classify expected (some f) = .badSync :=
  if_pos h

/-- A check that holds, under a sync word: the expectation is set from the frame's counter (R8). -/
theorem Receiver.framePosition_intact (r : Receiver) {f : LinkFrame} (hs : f.sync = 0xB62E)
    (hi : LinkBody.intact f.body = true) :
    r.framePosition (some f) =
      { r with badRun := 0 }.arrived f.body.counter f.body.slots
        (if r.expected = some f.body.counter then .good else .discontinuity) := by
  have hc : classify r.expected (some f) = if r.expected = some f.body.counter then .good else .discontinuity := by
    simp [classify, syncWord, hs, hi]
  unfold Receiver.framePosition
  rw [hc]
  split_ifs <;> rfl

/-- A check that fails, under a sync word (R8). -/
theorem Receiver.framePosition_damaged (r : Receiver) {f : LinkFrame} (hs : f.sync = 0xB62E)
    (hi : LinkBody.intact f.body = false) :
    r.framePosition (some f) = { r with badRun := 0 }.arrived f.body.counter f.body.slots .checkError := by
  have hc : classify r.expected (some f) = .checkError := by simp [classify, syncWord, hs, hi]
  unfold Receiver.framePosition
  rw [hc]

/-- A bad sync word that does not end the sync, or no decodable signal: the frame arrives without samples of its own (R7, R8). -/
theorem Receiver.framePosition_bad (r : Receiver) {line : Option LinkFrame} (hr : r.badRun < 3)
    (hl : ∀ f, line = some f → f.sync ≠ 0xB62E) :
    ∃ counter slots, r.framePosition line = { r with badRun := r.badRun + 1 }.arrived counter slots .badSync := by
  have hlt : r.badRun + 1 < 4 := by omega
  cases line with
  | none => exact ⟨0, Slots.silence, by simp [Receiver.framePosition, hlt]⟩
  | some f =>
    have hc := classify_of_bad_sync r.expected (hl f rfl)
    exact ⟨f.body.counter, f.body.slots, by simp [Receiver.framePosition, hc, hlt]⟩

/-- The fourth bad sync word of a run yields no frame (R7). -/
theorem Receiver.framePosition_fourth (r : Receiver) {line : Option LinkFrame} (hr : r.badRun = 3)
    (hl : ∀ f, line = some f → f.sync ≠ 0xB62E) : r.framePosition line = { r with badRun := 4 } := by
  cases line with
  | none => simp [Receiver.framePosition, hr]
  | some f =>
    have hc := classify_of_bad_sync r.expected (hl f rfl)
    simp [Receiver.framePosition, hc, hr]

theorem linkFrameArrival_of_synced {s : State} {p : Port} (ho : s.operating = true)
    (hs : (s.receiver p).sync ≠ .search) (hb : (s.receiver p).badRun < 4) (line : Option LinkFrame) :
    linkFrameArrival p line s =
      (s.portChanged p ((s.receiver p).framePosition line)
        (((s.receiver p).framePosition line).centred && !(s.receiver p).centred)).kick := by
  simp [linkFrameArrival, ho, hs, hb]

/-- A frame position whose frame arrives under class `c`, with its bad-sync run at `run`, offers an entry to the store. -/
theorem linkFrameArrival_of_arrived {s : State} {p : Port} {line : Option LinkFrame} {run : Nat} {counter : BitVec 8}
    {slots : Slots} {c : Arrival} (ho : s.operating = true) (hs : (s.receiver p).sync ≠ .search)
    (hb : (s.receiver p).badRun < 4)
    (hline : (s.receiver p).framePosition line = { s.receiver p with badRun := run }.arrived counter slots c) :
    linkFrameArrival p line s =
      (s.offered p { s.receiver p with badRun := run, expected := nextExpected (s.receiver p).expected counter c }
        ((s.receiver p).entryFor slots c)).kick := by
  rw [linkFrameArrival_of_synced ho hs hb, hline]
  exact congrArg State.kick (s.portChanged_arrived p { s.receiver p with badRun := run } counter slots c)

/-- Settles O5: each class of R8 is one form of `framePosition`, offered by `linkFrameArrival_of_arrived`. -/
theorem arrivalTable : Obligations.ArrivalTable := by
  rintro p s r ho rfl hs
  refine ⟨fun f hb hsync hi => ?intact, fun f hb hsync hi => ?damaged, fun line hb hl => ?bad⟩
  case intact =>
    rw [exec_linkFrameArrival, linkFrameArrival_of_arrived ho hs hb (Receiver.framePosition_intact _ hsync hi)]
    by_cases he : (s.receiver p).expected = some f.body.counter
    · simp [he, nextExpected, Receiver.entryFor]
    · simp [he, nextExpected, Receiver.entryFor]
  case damaged =>
    rw [exec_linkFrameArrival, linkFrameArrival_of_arrived ho hs hb (Receiver.framePosition_damaged _ hsync hi)]
    rfl
  case bad =>
    obtain ⟨counter, slots, hline⟩ := Receiver.framePosition_bad _ hb hl
    rw [exec_linkFrameArrival, linkFrameArrival_of_arrived ho hs (by omega) hline]
    rfl

/-! ### Search, lock and loss of sync (R6, R7) -/

theorem searchFramePosition_of_search {s : State} {p : Port} (ho : s.operating = true)
    (hs : (s.receiver p).sync = .search) (hq : (s.receiver p).qualifying < 8) (bits : Option (BitVec 16)) :
    searchFramePosition p bits s = s.setReceiver p ((s.receiver p).searched bits) := by
  simp [searchFramePosition, ho, hs, hq]

/-- The class under which the eighth qualifying frame is handled (R6, log 20). -/
def eighthClass (body : LinkBody) : Arrival :=
  if LinkBody.intact body then .good else .checkError

theorem portLock_of_qualified {s : State} {p : Port} (ho : s.operating = true) (hs : (s.receiver p).sync = .search)
    (hq : (s.receiver p).qualifying = 8) (body : LinkBody) :
    portLock p body s =
      (s.portChanged p (((s.receiver p).locked body.counter).arrived body.counter body.slots (eighthClass body))
        true).kick := by
  simp [portLock, ho, hs, hq, eighthClass]

/-- The eighth frame is the first of the emptied store, VALID where its check holds and HELD zeros otherwise (R6, R8, R13). -/
theorem Receiver.locked_arrived (r : Receiver) (body : LinkBody) :
    (r.locked body.counter).arrived body.counter body.slots (eighthClass body) =
      { r with
        sync := .locked
        expected := some (body.counter + 1)
        badRun := 0
        errorsNow := 0
        erroredRun := 0
        cleanRun := 0
        store :=
          [if LinkBody.intact body then { slots := body.slots, mark := .valid, error := false }
            else { slots := Vector.replicate 32 0, mark := .held, error := true }]
        centred := false
        lastEntered := some (if LinkBody.intact body then body.slots else Vector.replicate 32 0) } := by
  unfold eighthClass
  split <;> rfl

theorem portLossOfSync_of_fourth {s : State} {p : Port} (ho : s.operating = true)
    (hs : (s.receiver p).sync ≠ .search) (hb : (s.receiver p).badRun = 4) :
    portLossOfSync p s = (s.portChanged p (s.receiver p).lost true).kick := by
  simp [portLossOfSync, ho, hs, hb]

/-- Settles O4: each clause is the equation of one command of the receiver in one of its states. -/
theorem searchLockAndLoss : Obligations.SearchLockAndLoss := by
  refine ⟨fun p s ho hs => ⟨fun hq bits => ?searched, fun hq body => ?locked⟩,
    fun p s ho hs => ⟨fun hb line hl => ?fourth, fun hb => ?lost⟩⟩
  case searched =>
    rw [exec_searchFramePosition, searchFramePosition_of_search ho hs hq]
    rfl
  case locked =>
    rw [exec_portLock, portLock_of_qualified ho hs hq, Receiver.locked_arrived, State.portChanged_raised]
  case fourth =>
    rw [exec_linkFrameArrival, linkFrameArrival_of_synced ho hs (by omega), Receiver.framePosition_fourth _ hb hl]
    simp
  case lost =>
    rw [exec_portLossOfSync, portLossOfSync_of_fourth ho hs hb]
    rfl

end Sys2Proof.Machine
end

section
/-! PROOF. The check words (R5, R163): a register that takes in its own bits ends at 0, so a frame with its check passes. -/

namespace Sys2Proof.Machine

@[simp] theorem bitsMsb_length {w : Nat} (v : BitVec w) : (bitsMsb v).length = w := by
  simp [bitsMsb]

theorem crcBits_append {w : Nat} (g init : BitVec w) (a b : List Bool) :
    crcBits g init (a ++ b) = crcBits g (crcBits g init a) b :=
  List.foldl_append

/-- A bit equal to the register's most significant one only shifts the register. -/
theorem crcStep_msb {w : Nat} (g reg : BitVec w) : crcStep g reg reg.msb = reg <<< 1 := by
  simp [crcStep]

/-- The first `k` bits of the register, taken in by itself, shift it by `k`. -/
theorem crcBits_own_first {w : Nat} (g reg : BitVec w) (k : Nat) :
    crcBits g reg ((List.range k).map reg.getMsbD) = reg <<< k := by
  induction k with
  | zero => simp [crcBits]
  | succ k ih =>
    have hbit : reg.getMsbD k = (reg <<< k).msb := by simp [BitVec.msb]
    rw [List.range_succ, List.map_append, crcBits_append, ih, BitVec.shiftLeft_add]
    simp only [List.map_cons, List.map_nil, hbit, crcBits, List.foldl_cons, List.foldl_nil, crcStep_msb]

theorem crcBits_own {w : Nat} (g reg : BitVec w) : crcBits g reg (bitsMsb reg) = 0#w := by
  rw [bitsMsb, crcBits_own_first, BitVec.shiftLeft_eq_zero (Nat.le_refl w)]

theorem crc8_append_own (bits : List Bool) : crc8 (bits ++ bitsMsb (crc8 bits)) = 0#8 := by
  rw [crc8, crcBits_append]
  exact crcBits_own _ _

theorem LinkBody.covered_length (b : LinkBody) : (LinkBody.covered b).length = 776 := by
  simp [LinkBody.covered, List.length_flatMap]

theorem LinkFrame.bits_length (f : LinkFrame) : (LinkFrame.bits f).length = 800 := by
  simp [LinkFrame.bits, LinkBody.covered_length]

theorem buildLinkFrame_intact (counter : BitVec 8) (slots : Slots) :
    LinkBody.intact (buildLinkFrame counter slots).body = true := by
  simp only [LinkBody.intact, buildLinkFrame, LinkBody.covered, crc8_append_own, BEq.rfl]

end Sys2Proof.Machine
end

section
/-! PROOF. The output frame (R1, R10, R13, R14, R17, R21, R38): O7 and O8. -/

namespace Sys2Proof.Machine

theorem Service.runsFastPath_iff {sv : Service} :
    sv.runsFastPath = true ↔ sv.lifecycle.running = true ∧ sv.entryMarker = false := by
  simp [Service.runsFastPath]

/-- An output frame whose boundary has come in a subblock with a frame left. -/
theorem outputFrame_of_given {s : State} (ho : s.operating = true) (hg : s.clock.start = .given) (hf : s.frame < 4800) :
    outputFrame s =
      { s with
        clock := s.clock.frameBegun
        portA := s.portA.read.1
        portB := s.portB.read.1
        services :=
          Vector.ofFn fun n => ((s.servicesAtFrame s.portA.read.2.slots s.portB.read.2.slots).get n).1
        output :=
          { counter := s.output.counter + 1
            line :=
              .carrying (buildLinkFrame s.output.counter
                (s.outputSlots (s.servicesAtFrame s.portA.read.2.slots s.portB.read.2.slots))) }
        frame := s.frame + 1 } := by
  simp [outputFrame, ho, hg, hf]

@[simp] theorem State.servicesAtFrame_get (s : State) (a b : Slots) (n : ServiceIndex) :
    (s.servicesAtFrame a b).get n = (s.service n).atFrame s.frame a b :=
  Vector.get_ofFn _ _

theorem State.service_of_services {t : State} {f : ServiceIndex → Service} (h : t.services = Vector.ofFn f)
    (n : ServiceIndex) : t.service n = f n := by
  rw [State.service, h, Vector.get_ofFn]

theorem outputFrame_services {s : State} (ho : s.operating = true) (hg : s.clock.start = .given) (hf : s.frame < 4800) :
    (outputFrame s).services =
      Vector.ofFn fun n => ((s.service n).atFrame s.frame s.portA.read.2.slots s.portB.read.2.slots).1 := by
  rw [outputFrame_of_given ho hg hf]
  simp only [State.servicesAtFrame_get]

theorem Clock.frameBegun_eq (c : Clock) :
    c.frameBegun = { c with start := if c.source = .internal then .given else .window } := by
  cases hs : c.source <;> simp [Clock.frameBegun, ClockSource.frameStart, hs]

/-- What one read leaves of a receiver and returns, by the state of its store (R10, R13, R14, R21). -/
theorem Receiver.read_table (r : Receiver) :
    if r.centred = false then
      r.read.1 = { r with frameRead := some r.read.2 } ∧
        r.read.2 = { slots := Vector.replicate 32 0, mark := .absent }
    else
      match r.store with
      | [] =>
        r.read.1 = { r with slips := min (r.slips + 1) 65535, frameRead := some r.read.2 } ∧
          r.read.2 = { slots := r.lastRead.getD (Vector.replicate 32 0), mark := .held }
      | e :: rest =>
        r.read.1 =
          { r with
            store := rest
            lastRead := some e.slots
            frameRead := some r.read.2
            errorsNow := r.errorsNow + if e.error then 1 else 0 } ∧
          r.read.2 = { slots := e.slots, mark := match e.mark with | .valid => .valid | .held => .held } := by
  rcases r.read_cases with ⟨hc, h2, h1⟩ | ⟨hc, hs, h2, h1⟩ | ⟨e, rest, hc, hs, h2, h1⟩
  · rw [if_pos hc]
    exact ⟨h1, h2⟩
  · rw [if_neg (by simp [hc])]
    split
    · exact ⟨h1, h2⟩
    · next hcons => exact absurd (hs.symm.trans hcons) (by simp)
  · rw [if_neg (by simp [hc]), hs]
    exact ⟨h1, h2⟩

/-- Settles O7: `outputFrame_of_given` gives the frame, `Receiver.read_table` the reads. -/
theorem outputFrameReadsAndRuns : Obligations.OutputFrameReadsAndRuns := by
  intro s ho hg hf
  refine ⟨outputFrame s, rfl, ?frame, ?counter, fun p => ⟨(s.receiver p).read.2, rfl, ?read⟩, fun n => ?service⟩
  case frame => rw [outputFrame_of_given ho hg hf, Clock.frameBegun_eq]
  case counter => rw [outputFrame_of_given ho hg hf]
  case read =>
    rw [outputFrame_of_given ho hg hf]
    cases p <;> exact Receiver.read_table _
  case service =>
    rw [State.service_of_services (outputFrame_services ho hg hf), Service.atFrame]
    simp only [Service.runsFastPath_iff]
    split <;> rfl

/-- The sample of a slot by the output table: that of its owner's fast path where it runs, and zero otherwise (R17, R38). -/
theorem State.slotSample_eq (s : State) (owner : Option Owner) (a b : Slots) :
    slotSample owner (s.servicesAtFrame a b) =
      match owner with
      | some o =>
        if (s.service o.service).lifecycle.running ∧ (s.service o.service).entryMarker = false then
          BitVec.ofInt 24 (((s.service o.service).fastPath s.frame a b).2.getD o.channel.val 0)
        else 0
      | none => 0 := by
  cases owner with
  | none => rfl
  | some o =>
    simp only [slotSample, State.servicesAtFrame_get, Service.atFrame_lifecycle]
    cases hr : (s.service o.service).lifecycle.running <;> cases he : (s.service o.service).entryMarker <;>
      simp [Service.atFrame, Service.runsFastPath, hr, he]

/-- Settles O8: the frame is that of `buildLinkFrame`, whose check is its CRC. -/
theorem outputFrameSent : Obligations.OutputFrameSent := by
  intro s ho hg hf
  refine ⟨outputFrame s,
    buildLinkFrame s.output.counter (s.outputSlots (s.servicesAtFrame s.portA.read.2.slots s.portB.read.2.slots)), rfl,
    ?line, rfl, rfl, buildLinkFrame_intact _ _, LinkFrame.bits_length _, fun slot => ?slot⟩
  case line => rw [outputFrame_of_given ho hg hf]
  case slot =>
    have hget : ∀ ran, (s.outputSlots ran).get slot = slotSample (s.owner .output slot) ran :=
      fun ran => Vector.get_ofFn _ _
    exact (hget _).trans (s.slotSample_eq _ _ _)

end Sys2Proof.Machine
end

section
/-! PROOF. Raises kept by what follows them (R177), and the frame of a kick (R170). -/

namespace Sys2Proof.Machine

@[simp] theorem State.raise_mask (s : State) (o : Origin) (d : Detail) :
    (s.raise o d).notices.mask = s.notices.mask := by
  rw [State.raise_eq]

/-- A raise of another pair of origin and kind leaves what an earlier one put into the set. -/
theorem Notices.raised_of_other {mask : Byte} {ns : Notices} {o o' : Origin} {d d' : Detail} (w : Word32)
    (h : Raised mask ns o d) (hne : (o, d.kind) ≠ (o', d'.kind)) : Raised mask (ns.raise o' d' w) o d := by
  intro hm
  obtain ⟨e, he, rfl, rfl⟩ := h hm
  unfold Notices.raise
  split
  · exact ⟨e, he, rfl, rfl⟩
  split
  · have hf : e.isFor o' d'.kind = false := by
      rw [Bool.eq_false_iff, Ne, NoticeEntry.isFor_iff]
      exact hne
    exact ⟨e, List.mem_map.mpr ⟨e, he, by simp [hf]⟩, rfl, rfl⟩
  · exact ⟨e, List.mem_append_left _ he, rfl, rfl⟩

theorem State.raised_raiseAll_of_other {mask : Byte} {s : State} {o o' : Origin} {d : Detail} {ds : List Detail}
    (h : Raised mask s.notices o d) (hne : ∀ d' ∈ ds, (o, d.kind) ≠ (o', d'.kind)) :
    Raised mask (s.raiseAll o' ds).notices o d := by
  induction ds generalizing s with
  | nil => exact h
  | cons d' ds ih =>
    obtain ⟨hd', hds⟩ := List.forall_mem_cons.mp hne
    exact ih (s := s.raise o' d') (Notices.raised_of_other _ h hd') hds

/-- Raises of different kinds from one origin are all in the set. -/
theorem State.raised_raiseAll {s : State} (o : Origin) {d : Detail} {ds : List Detail}
    (hk : ds.Pairwise fun d d' => d.kind ≠ d'.kind) (hd : d ∈ ds) :
    Raised s.notices.mask (s.raiseAll o ds).notices o d := by
  induction ds generalizing s with
  | nil => exact absurd hd (List.not_mem_nil)
  | cons d' ds ih =>
    obtain ⟨hd', hds⟩ := List.pairwise_cons.mp hk
    rcases List.mem_cons.mp hd with rfl | hmem
    · exact State.raised_raiseAll_of_other (s := s.raise o d) (Notices.raised_raise _ _ _ _)
        fun x hx he => hd' x hx (congrArg Prod.snd he)
    · rw [← State.raise_mask s o d']
      exact ih (s := s.raise o d') hds hmem

/-- A kick touches what is being sent and the entries of the notice set alone. -/
theorem State.kick_eq (s : State) :
    s.kick =
      { s with
        control := { s.control with sending := s.kick.control.sending }
        notices := { s.notices with entries := s.kick.notices.entries } } := by
  rcases s.kick_cases with h | ⟨r, rest, -, -, h⟩ | ⟨e, rest, -, -, -, h⟩ <;> rw [h]

/-- The transmitter's choice takes no raise from the set. -/
theorem State.raised_kick {mask : Byte} {s : State} {o : Origin} {d : Detail} (h : Raised mask s.notices o d) :
    Raised mask s.kick.notices o d := by
  rcases s.kick_cases with hk | ⟨r, rest, -, -, hk⟩ | ⟨e, rest, -, -, he, hk⟩
  · rwa [hk]
  · rwa [hk]
  · intro hm
    obtain ⟨x, hx, ho, hd⟩ := h hm
    rw [hk]
    rw [he] at hx
    rcases List.mem_cons.mp hx with rfl | hrest
    · exact ⟨_, List.mem_cons_self, ho, hd⟩
    · exact ⟨x, List.mem_cons_of_mem _ hrest, ho, hd⟩

end Sys2Proof.Machine
end

section
/-! PROOF. The assessment of a port (R10). -/

namespace Sys2Proof.Machine

theorem satInc_max16 (n : Nat) : satInc Config.max16 n = min (n + 1) 65535 := rfl

theorem satInc_max16_eq_iff {n k : Nat} (hk : k < 65535) : satInc Config.max16 n = k ↔ n + 1 = k := by
  rw [satInc_max16]
  omega

/-- The table of R10. -/
theorem Receiver.assessed_table (r : Receiver) :
    r.assessed.1 =
      if r.sync = .search then { r with errorsLast := 0, errorsNow := 0 }
      else if r.errorLimit ≤ r.errorsNow then
        { r with
          errorsLast := r.errorsNow
          errorsNow := 0
          erroredRun := min (r.erroredRun + 1) 65535
          cleanRun := 0
          sync := if r.sync = .locked ∧ r.erroredRun + 1 = 3 then .unreliable else r.sync }
      else
        { r with
          errorsLast := r.errorsNow
          errorsNow := 0
          erroredRun := 0
          cleanRun := min (r.cleanRun + 1) 65535
          sync := if r.sync = .unreliable ∧ r.cleanRun + 1 = 10 then .locked else r.sync } := by
  have h3 := satInc_max16_eq_iff (n := r.erroredRun) (k := 3) (by decide)
  have h10 := satInc_max16_eq_iff (n := r.cleanRun) (k := 10) (by decide)
  simp only [← satInc_max16]
  cases hs : r.sync with
  | search => simp [Receiver.assessed, hs]
  | locked =>
    by_cases he : r.errorLimit ≤ r.errorsNow
    · by_cases hr : r.erroredRun + 1 = 3 <;> simp [Receiver.assessed, hs, he, h3, hr]
    · simp [Receiver.assessed, hs, he]
  | unreliable =>
    by_cases he : r.errorLimit ≤ r.errorsNow
    · simp [Receiver.assessed, hs, he]
    · by_cases hr : r.cleanRun + 1 = 10 <;> simp [Receiver.assessed, hs, he, h10, hr]

/-- An assessment that does not report a change of the sync state makes none. -/
theorem Receiver.assessed_sync_of_unchanged {r : Receiver} (h : r.assessed.2 = false) :
    r.assessed.1.sync = r.sync := by
  cases hs : r.sync with
  | search => simp [Receiver.assessed, hs]
  | locked =>
    by_cases he : r.errorLimit ≤ r.errorsNow
    · by_cases hr : satInc Config.max16 r.erroredRun = 3
      · simp [Receiver.assessed, hs, he, hr] at h
      · simp [Receiver.assessed, hs, he, hr]
    · simp [Receiver.assessed, hs, he]
  | unreliable =>
    by_cases he : r.errorLimit ≤ r.errorsNow
    · simp [Receiver.assessed, hs, he]
    · by_cases hr : satInc Config.max16 r.cleanRun = 10
      · simp [Receiver.assessed, hs, he, hr] at h
      · simp [Receiver.assessed, hs, he, hr]

end Sys2Proof.Machine
end

section
/-! PROOF. The subblock end (R4, R42, R47, R53, R158, R178): its items one by one, then all of them in any order; O6 and O17. -/

namespace Sys2Proof.Machine

/-! ### The order of the items (R178) -/

theorem mem_closeItem_all (i : CloseItem) : i ∈ CloseItem.all := by
  cases i with
  | port p => cases p <;> decide
  | service n => revert n; decide

/-- Adding the items of a list that are not there yet keeps each item once, and leaves none out. -/
theorem foldl_addMissing (items added : List CloseItem) (h : added.Nodup) :
    (items.foldl (fun acc i => if acc.contains i then acc else acc ++ [i]) added).Nodup ∧
      ∀ i, i ∈ items.foldl (fun acc i => if acc.contains i then acc else acc ++ [i]) added ↔ i ∈ added ∨ i ∈ items := by
  induction items generalizing added with
  | nil => exact ⟨h, fun i => by simp⟩
  | cons j items ih =>
    rw [List.foldl_cons]
    split
    · next hj =>
      obtain ⟨hn, hm⟩ := ih added h
      refine ⟨hn, fun i => (hm i).trans ?_⟩
      have hmem : j ∈ added := by simpa using hj
      rw [List.mem_cons]
      constructor
      · exact Or.imp_right Or.inr
      · rintro (hi | rfl | hi)
        · exact .inl hi
        · exact .inl hmem
        · exact .inr hi
    · next hj =>
      have hmem : j ∉ added := by simpa using hj
      obtain ⟨hn, hm⟩ := ih (added ++ [j]) (List.nodup_append.mpr ⟨h, by simp, by
        rintro a ha b hb rfl
        exact hmem (List.mem_singleton.mp hb ▸ ha)⟩)
      refine ⟨hn, fun i => (hm i).trans ?_⟩
      rw [List.mem_append, List.mem_singleton, List.mem_cons, or_assoc]

theorem completeOrder_nodup (order : List CloseItem) : (completeOrder order).Nodup :=
  (foldl_addMissing _ [] List.nodup_nil).1

theorem mem_completeOrder (order : List CloseItem) (i : CloseItem) : i ∈ completeOrder order :=
  ((foldl_addMissing _ [] List.nodup_nil).2 i).mpr (.inr (List.mem_append_right _ (mem_closeItem_all i)))

/-- Whatever the order, each of the eighteen items is taken once (log 7). -/
theorem completeOrder_perm (order : List CloseItem) : (completeOrder order).Perm CloseItem.all :=
  (List.perm_ext_iff_of_nodup (completeOrder_nodup order) (by decide)).mpr fun i =>
    ⟨fun _ => mem_closeItem_all i, fun _ => mem_completeOrder order i⟩

/-! ### One item -/

/-- The origin of an item's raises (R178). -/
def itemOrigin : CloseItem → Origin
  | .port p => .port p
  | .service n => .service n

theorem itemOrigin_injective : Function.Injective itemOrigin := by
  intro i j h
  cases i <;> cases j <;> simp_all [itemOrigin]

/-- The raises of an item (R15, R178). -/
def State.itemRaises (changed : Port → Bool) (s : State) : CloseItem → List Detail
  | .port p => if changed p then [(s.receiver p).notice] else []
  | .service n =>
    if (s.service n).lifecycle.running then
      ((s.service n).close s.portA.usable s.portB.usable s.subblock).notices
    else []

/-- The units that an item releases (R46, R53). -/
def State.itemReleased (s : State) : CloseItem → Nat
  | .port _ => 0
  | .service n =>
    if (s.service n).lifecycle.running then
      ((s.service n).close s.portA.usable s.portB.usable s.subblock).released
    else 0

/-- A service after its item (R42). -/
def State.closedService (s : State) (n : ServiceIndex) : Service :=
  if (s.service n).lifecycle.running then
    ((s.service n).close s.portA.usable s.portB.usable s.subblock).service
  else s.service n

theorem Service.close_released (sv : Service) (a b : Bool) (w : Word32) :
    (sv.close a b w).released = if (sv.close a b w).service.lifecycle = .idle then sv.cost else 0 := rfl

@[simp] theorem State.setService_self (s : State) (n : ServiceIndex) : s.setService n (s.service n) = s := by
  have h : s.services.set n (s.service n) n.isLt = s.services := Vector.set_getElem_self n.isLt
  rw [State.setService, h]

/-- The record and the budget after an item, before its raises. -/
def State.itemTaken (s : State) : CloseItem → State
  | .port _ => s
  | .service n =>
    { s.setService n (s.closedService n) with committed := s.committed - s.itemReleased (.service n) }

/-- An item is its change of record and budget, and then its raises from its own origin. -/
theorem State.closeItem_eq_raiseAll (changed : Port → Bool) (s : State) (i : CloseItem) :
    State.closeItem changed s i = (s.itemTaken i).raiseAll (itemOrigin i) (s.itemRaises changed i) := by
  cases i with
  | port p =>
    simp only [State.closeItem, State.itemRaises]
    split <;> rfl
  | service n =>
    simp only [State.closeItem, State.closeService, State.itemTaken, State.itemRaises, State.itemReleased,
      State.closedService]
    split
    · rfl
    · rw [State.setService_self]
      rfl

theorem State.itemTaken_eq (s : State) (i : CloseItem) :
    s.itemTaken i = { s with services := (s.itemTaken i).services, committed := (s.itemTaken i).committed } := by
  cases i <;> rfl

theorem State.raiseAll_eq (s : State) (o : Origin) (ds : List Detail) :
    s.raiseAll o ds = { s with notices := { s.notices with entries := (s.raiseAll o ds).notices.entries } } := by
  induction ds generalizing s with
  | nil => rfl
  | cons d ds ih =>
    have hcons : s.raiseAll o (d :: ds) = (s.raise o d).raiseAll o ds := rfl
    rw [hcons, ih, State.raise_eq]

/-- A service that its close leaves in IDLE releases its cost (R46, R53). -/
theorem State.itemReleased_service (s : State) (n : ServiceIndex) :
    s.itemReleased (.service n) =
      if (s.service n).lifecycle.running = true ∧ (s.closedService n).lifecycle = .idle then (s.service n).cost
      else 0 := by
  rw [State.itemReleased, State.closedService, ite_and]
  split
  · exact Service.close_released _ _ _ _
  · rfl

/-- An item touches services, the committed total and the notice set's entries alone. -/
theorem State.closeItem_eq (changed : Port → Bool) (s : State) (i : CloseItem) :
    State.closeItem changed s i =
      { s with
        services := (State.closeItem changed s i).services
        committed := (State.closeItem changed s i).committed
        notices := { s.notices with entries := (State.closeItem changed s i).notices.entries } } := by
  rw [State.closeItem_eq_raiseAll, State.raiseAll_eq, State.itemTaken_eq]

theorem State.closeItem_service (changed : Port → Bool) (s : State) (i : CloseItem) (n : ServiceIndex) :
    (State.closeItem changed s i).service n = if i = .service n then s.closedService n else s.service n := by
  rw [State.closeItem_eq_raiseAll, State.raiseAll_service]
  cases i with
  | port p => rfl
  | service m =>
    refine (State.service_setService s m n _).trans ?_
    by_cases h : n = m
    · subst h; simp
    · simp [h, Ne.symm h]

theorem State.closeItem_committed (changed : Port → Bool) (s : State) (i : CloseItem) :
    (State.closeItem changed s i).committed = s.committed - s.itemReleased i := by
  rw [State.closeItem_eq_raiseAll, State.raiseAll_committed]
  cases i <;> rfl

theorem stateNotice_kinds (l : Lifecycle) (sv : Service) :
    (stateNotice l sv).Pairwise fun d d' => d.kind ≠ d'.kind := by
  unfold stateNotice
  split <;> simp

theorem feedNotice_kinds (f : Feed) (x : FeedDecision) : (feedNotice f x).Pairwise fun d d' => d.kind ≠ d'.kind := by
  unfold feedNotice
  (repeat' split) <;> simp

theorem deviationNotice_kinds (b : Bool) (sv : Service) :
    (deviationNotice b sv).Pairwise fun d d' => d.kind ≠ d'.kind := by
  unfold deviationNotice
  split <;> simp

theorem limiterNotices_kinds (sv : Service) : (limiterNotices sv).Pairwise fun d d' => d.kind ≠ d'.kind := by
  unfold limiterNotices
  split <;> split <;> simp [Detail.kind]

/-- The raises of a close are of different kinds, in the kind order of R178. -/
theorem Service.close_notices_kinds (sv : Service) (a b : Bool) (w : Word32) :
    (sv.close a b w).notices.Pairwise fun d d' => d.kind ≠ d'.kind := by
  simp only [Service.close, List.pairwise_append]
  refine ⟨⟨⟨stateNotice_kinds _ _, feedNotice_kinds _ _, ?feed⟩, deviationNotice_kinds _ _, ?deviation⟩,
    limiterNotices_kinds _, ?limiter⟩
  case feed =>
    intro d hd d' hd'
    rw [kind_of_mem_stateNotice hd, kind_of_mem_feedNotice hd']
    decide
  case deviation =>
    intro d hd d' hd'
    rw [kind_of_mem_deviationNotice hd']
    rcases List.mem_append.mp hd with hd | hd
    · rw [kind_of_mem_stateNotice hd]; decide
    · rw [kind_of_mem_feedNotice hd]; decide
  case limiter =>
    intro d hd d' hd'
    have hearly : d.kind = .state ∨ d.kind = .feed ∨ d.kind = .deviation := by
      rcases List.mem_append.mp hd with hd | hd
      · exact (List.mem_append.mp hd).imp kind_of_mem_stateNotice fun h => .inl (kind_of_mem_feedNotice h)
      · exact .inr (.inr (kind_of_mem_deviationNotice hd))
    rcases kind_of_mem_limiterNotices hd' with h' | h' <;> rcases hearly with h | h | h <;> simp [h, h']

theorem State.itemRaises_kinds (changed : Port → Bool) (s : State) (i : CloseItem) :
    (s.itemRaises changed i).Pairwise fun d d' => d.kind ≠ d'.kind := by
  cases i with
  | port p => simp only [State.itemRaises]; split <;> simp
  | service n =>
    simp only [State.itemRaises]
    split
    · exact Service.close_notices_kinds _ _ _ _
    · exact List.Pairwise.nil

theorem State.raised_closeItem {changed : Port → Bool} {s : State} {i : CloseItem} {d : Detail}
    (hd : d ∈ s.itemRaises changed i) :
    Raised s.notices.mask (State.closeItem changed s i).notices (itemOrigin i) d := by
  have hmask : (s.itemTaken i).notices = s.notices := by rw [State.itemTaken_eq]
  rw [State.closeItem_eq_raiseAll, ← hmask]
  exact State.raised_raiseAll _ (s.itemRaises_kinds changed i) hd

theorem State.raised_closeItem_of_other {changed : Port → Bool} {mask : Byte} {s : State} {i : CloseItem} {o : Origin}
    {d : Detail} (h : Raised mask s.notices o d) (ho : o ≠ itemOrigin i) :
    Raised mask (State.closeItem changed s i).notices o d := by
  have hmask : (s.itemTaken i).notices = s.notices := by rw [State.itemTaken_eq]
  rw [State.closeItem_eq_raiseAll]
  rw [← hmask] at h
  exact State.raised_raiseAll_of_other h fun d' _ he => ho (congrArg Prod.fst he)

/-! ### All items -/

section
variable (changed : Port → Bool)

theorem State.closeItems_eq (items : List CloseItem) (s : State) :
    items.foldl (State.closeItem changed) s =
      { s with
        services := (items.foldl (State.closeItem changed) s).services
        committed := (items.foldl (State.closeItem changed) s).committed
        notices := { s.notices with entries := (items.foldl (State.closeItem changed) s).notices.entries } } := by
  induction items generalizing s with
  | nil => rfl
  | cons i items ih =>
    rw [List.foldl_cons]
    generalize hs : State.closeItem changed s i = next
    rw [ih next, ← hs, State.closeItem_eq]

/-- An item leaves the others as they were. -/
theorem State.closeItem_closedService {i : CloseItem} {n : ServiceIndex} (s : State) (h : i ≠ .service n) :
    (State.closeItem changed s i).closedService n = s.closedService n := by
  have hs : (State.closeItem changed s i).service n = s.service n := by rw [State.closeItem_service, if_neg h]
  rw [State.closedService, hs, State.closeItem_eq]
  rfl

theorem State.closeItem_itemReleased {i j : CloseItem} (s : State) (h : i ≠ j) :
    (State.closeItem changed s i).itemReleased j = s.itemReleased j := by
  cases j with
  | port p => rfl
  | service n =>
    have hs : (State.closeItem changed s i).service n = s.service n := by rw [State.closeItem_service, if_neg h]
    rw [State.itemReleased, hs, State.closeItem_eq]
    rfl

theorem State.closeItem_itemRaises {i j : CloseItem} (s : State) (h : i ≠ j) :
    (State.closeItem changed s i).itemRaises changed j = s.itemRaises changed j := by
  cases j with
  | port p =>
    rw [State.itemRaises, State.closeItem_eq]
    cases p <;> rfl
  | service n =>
    have hs : (State.closeItem changed s i).service n = s.service n := by rw [State.closeItem_service, if_neg h]
    rw [State.itemRaises, hs, State.closeItem_eq]
    rfl

theorem State.closeItems_service {items : List CloseItem} (hn : items.Nodup) (s : State) (n : ServiceIndex) :
    (items.foldl (State.closeItem changed) s).service n =
      if .service n ∈ items then s.closedService n else s.service n := by
  induction items generalizing s with
  | nil => simp
  | cons i items ih =>
    obtain ⟨hi, hn⟩ := List.nodup_cons.mp hn
    rw [List.foldl_cons, ih hn, State.closeItem_service]
    by_cases h : i = .service n
    · subst h
      simp [hi]
    · simp [h, Ne.symm h, State.closeItem_closedService changed s h]

theorem State.closeItems_committed {items : List CloseItem} (hn : items.Nodup) (s : State) :
    (items.foldl (State.closeItem changed) s).committed = s.committed - (items.map s.itemReleased).sum := by
  induction items generalizing s with
  | nil => simp
  | cons i items ih =>
    obtain ⟨hi, hn⟩ := List.nodup_cons.mp hn
    have hsame : items.map (State.closeItem changed s i).itemReleased = items.map s.itemReleased :=
      List.map_congr_left fun j hj => State.closeItem_itemReleased changed s fun he => hi (he ▸ hj)
    rw [List.foldl_cons, ih hn, hsame, State.closeItem_committed, List.map_cons, List.sum_cons, Nat.sub_sub]

theorem State.raised_closeItems_of_other {items : List CloseItem} {mask : Byte} {s : State} {o : Origin} {d : Detail}
    (h : Raised mask s.notices o d) (ho : ∀ i ∈ items, o ≠ itemOrigin i) :
    Raised mask (items.foldl (State.closeItem changed) s).notices o d := by
  induction items generalizing s with
  | nil => exact h
  | cons i items ih =>
    obtain ⟨hi, hitems⟩ := List.forall_mem_cons.mp ho
    exact ih (State.raised_closeItem_of_other h hi) hitems

theorem State.raised_closeItems {items : List CloseItem} (hn : items.Nodup) {s : State} {i : CloseItem}
    (hi : i ∈ items) {d : Detail} (hd : d ∈ s.itemRaises changed i) :
    Raised s.notices.mask (items.foldl (State.closeItem changed) s).notices (itemOrigin i) d := by
  induction items generalizing s with
  | nil => exact absurd hi List.not_mem_nil
  | cons j items ih =>
    obtain ⟨hj, hn⟩ := List.nodup_cons.mp hn
    rw [List.foldl_cons]
    rcases List.mem_cons.mp hi with rfl | hmem
    · exact State.raised_closeItems_of_other changed (State.raised_closeItem hd)
        fun k hk he => hj (itemOrigin_injective he ▸ hk)
    · have hne : j ≠ i := fun he => hj (he ▸ hmem)
      have hmask : (State.closeItem changed s j).notices.mask = s.notices.mask := by rw [State.closeItem_eq]
      rw [← hmask]
      exact ih hn hmem (by rwa [State.closeItem_itemRaises changed s hne])

end

/-! ### The whole subblock end -/

/-- Whether a port's assessment changes its sync state (R10, R15). -/
def State.syncChanged (s : State) (p : Port) : Bool :=
  (s.receiver p).assessed.2

/-- The ports as assessed (R10), before any item. -/
def State.assessed (s : State) : State :=
  { s with portA := s.portA.assessed.1, portB := s.portB.assessed.1 }

/-- The part after all items of a subblock end, the counter still that of the closed subblock. -/
def State.itemsTaken (s : State) (order : List CloseItem) : State :=
  (completeOrder order).foldl (State.closeItem s.syncChanged) s.assessed

theorem subblockEnd_of_due {s : State} (order : List CloseItem) (ho : s.operating = true) (hf : s.frame = 4800) :
    subblockEnd order s = { s.itemsTaken order with frame := 0, subblock := s.subblock + 1 }.kick := by
  have hdue : (s.operating && s.frame == Config.framesPerSubblock) = true := by simp [ho, hf]
  have htaken : ∀ changed : Port → Bool, (∀ p, changed p = s.syncChanged p) →
      { (completeOrder order).foldl (State.closeItem changed) s.assessed with
        frame := 0, subblock := s.subblock + 1 }.kick =
      { s.itemsTaken order with frame := 0, subblock := s.subblock + 1 }.kick := by
    intro changed hc
    rw [funext hc]
    rfl
  rw [subblockEnd, if_pos hdue]
  exact htaken _ fun p => by cases p <;> rfl

@[simp] theorem State.assessed_service (s : State) (n : ServiceIndex) : s.assessed.service n = s.service n := rfl

@[simp] theorem State.assessed_subblock (s : State) : s.assessed.subblock = s.subblock := rfl

theorem State.assessed_receiver (s : State) (p : Port) : s.assessed.receiver p = (s.receiver p).assessed.1 := by
  cases p <;> rfl

theorem subblockEnd_receiver {s : State} (order : List CloseItem) (ho : s.operating = true) (hf : s.frame = 4800)
    (p : Port) : (subblockEnd order s).receiver p = (s.receiver p).assessed.1 := by
  rw [subblockEnd_of_due order ho hf, State.kick_receiver, ← State.assessed_receiver, State.itemsTaken,
    State.closeItems_eq]
  cases p <;> rfl

/-- Settles O6: `subblockEnd_receiver` and the table of R10. -/
theorem subblockEndAssessesPorts : Obligations.SubblockEndAssessesPorts := by
  intro order s ho hf
  exact ⟨subblockEnd order s, rfl, fun p => (subblockEnd_receiver order ho hf p).trans (Receiver.assessed_table _)⟩

theorem subblockEnd_service {s : State} (order : List CloseItem) (ho : s.operating = true) (hf : s.frame = 4800)
    (n : ServiceIndex) : (subblockEnd order s).service n = s.assessed.closedService n := by
  rw [subblockEnd_of_due order ho hf, State.kick_service]
  exact (State.closeItems_service _ (completeOrder_nodup order) _ n).trans (if_pos (mem_completeOrder order _))

theorem subblockEnd_committed {s : State} (order : List CloseItem) (ho : s.operating = true) (hf : s.frame = 4800) :
    (subblockEnd order s).committed = s.committed - ∑ n : ServiceIndex, s.assessed.itemReleased (.service n) := by
  have hsum : ((completeOrder order).map s.assessed.itemReleased).sum =
      ∑ n : ServiceIndex, s.assessed.itemReleased (.service n) := by
    rw [((completeOrder_perm order).map _).sum_eq, CloseItem.all, allServices_eq, Fin.sum_univ_def]
    simp [State.itemReleased, Function.comp_def]
  rw [subblockEnd_of_due order ho hf, State.kick_committed, ← hsum]
  exact State.closeItems_committed _ (completeOrder_nodup order) _

theorem raised_subblockEnd {s : State} (order : List CloseItem) (ho : s.operating = true) (hf : s.frame = 4800)
    {i : CloseItem} {d : Detail} (hd : d ∈ s.assessed.itemRaises s.syncChanged i) :
    Raised s.notices.mask (subblockEnd order s).notices (itemOrigin i) d := by
  rw [subblockEnd_of_due order ho hf]
  exact State.raised_kick (State.raised_closeItems _ (completeOrder_nodup order) (mem_completeOrder order i) hd)

/-- What a subblock end changes at most. -/
theorem subblockEnd_eq {s : State} (order : List CloseItem) (ho : s.operating = true) (hf : s.frame = 4800) :
    subblockEnd order s =
      { s with
        frame := 0, subblock := s.subblock + 1
        portA := (subblockEnd order s).portA, portB := (subblockEnd order s).portB
        services := (subblockEnd order s).services, committed := (subblockEnd order s).committed
        notices := { (subblockEnd order s).notices with mask := s.notices.mask }
        control := { s.control with sending := (subblockEnd order s).control.sending } } := by
  rw [subblockEnd_of_due order ho hf, State.kick_eq, State.itemsTaken, State.closeItems_eq]
  rfl

/-- Settles O17: the frame, the records, the budget and the raises of a subblock end, item by item in `completeOrder`. -/
theorem subblockEndClosesEveryService : Obligations.SubblockEndClosesEveryService := by
  intro order s _ ho hf
  have hA : (subblockEnd order s).portA = s.assessed.portA := subblockEnd_receiver order ho hf .a
  have hB : (subblockEnd order s).portB = s.assessed.portB := subblockEnd_receiver order ho hf .b
  refine ⟨subblockEnd order s, rfl, subblockEnd_eq order ho hf, fun n => ?service, ?budget, fun n hr d hd => ?closes,
    fun p hp => ?ports⟩
  case service =>
    rw [subblockEnd_service order ho hf, hA, hB, State.closedService, State.assessed_service, State.assessed_subblock]
  case budget =>
    rw [subblockEnd_committed order ho hf]
    refine congrArg (s.committed - ·) (Finset.sum_congr rfl fun n _ => ?_)
    rw [subblockEnd_service order ho hf, State.itemReleased_service, State.assessed_service]
  case closes =>
    rw [hA, hB] at hd
    refine raised_subblockEnd order ho hf (i := .service n) ?_
    rwa [State.itemRaises, State.assessed_service, if_pos hr, State.assessed_subblock]
  case ports =>
    rw [subblockEnd_receiver order ho hf] at hp ⊢
    have hc : s.syncChanged p = true := by
      by_contra h
      exact hp (Receiver.assessed_sync_of_unchanged (Bool.eq_false_iff.mpr h))
    refine raised_subblockEnd order ho hf (i := .port p) ?_
    rw [State.itemRaises, if_pos hc, State.assessed_receiver]
    exact List.mem_singleton_self _

end Sys2Proof.Machine
end

section
/-! PROOF. Serving keeps what its parts keep, and what the act of each request leaves alone (R167). -/

namespace Sys2Proof.Machine

section
variable {P : State → Prop} {kind : Byte} {act : ControlFrame → State → State × Answer}

/-- A law that the dequeuing, the act and the reply keep is kept by the whole served request. -/
theorem serve_keeps {s : State} (hdequeued : ∀ t : State, P t → P t.dequeued) (hact : ∀ f t, P t → P (act f t).1)
    (hreply : ∀ (t : State) frame mark, P t → P (t.appendReply frame mark).kick) (h : P s) : P (serve kind act s) := by
  unfold serve
  split
  · exact h
  · exact hreply _ _ _ (hact _ _ (hdequeued _ h))

theorem onService_keeps {s : State} {act : ServiceIndex → ControlFrame → State → State × Answer} (f : ControlFrame)
    (hact : ∀ n f t, P t → P (act n f t).1) (h : P s) : P (onService act f s).1 := by
  unfold onService
  split
  · exact hact _ _ _ h
  · exact h

end

theorem identifyAct_state (f : ControlFrame) (s : State) : (identifyAct f s).1 = s := by
  unfold identifyAct
  (repeat' split) <;> rfl

theorem queryAct_state (f : ControlFrame) (s : State) : (queryAct f s).1 = s := by
  unfold queryAct
  (repeat' split) <;> rfl

theorem peekAct_state (f : ControlFrame) (s : State) : (peekAct f s).1 = s := by
  unfold peekAct
  (repeat' split) <;> rfl

section
variable (n : ServiceIndex) (f : ControlFrame) (s : State)

/-- A Map is refused, or gives the service its map (R24 to R30). -/
theorem mapAct_cases :
    (mapAct n f s).1 = s ∨ ∃ layout channels, (mapAct n f s).1 = s.mapService n layout channels := by
  unfold mapAct
  dsimp only
  split
  · exact .inl rfl
  split
  · exact .inl rfl
  · exact .inr ⟨_, _, rfl⟩

theorem unmapAct_cases : (unmapAct n f s).1 = s ∨ (unmapAct n f s).1 = s.unmapService n := by
  unfold unmapAct
  dsimp only
  split
  · exact .inl rfl
  split
  · exact .inl rfl
  split
  · exact .inl rfl
  · exact .inr rfl

theorem profileAct_cases (protect : PinLevel) :
    (profileAct protect n f s).1 = s ∨ ∃ sv, (profileAct protect n f s).1 = s.setService n sv := by
  unfold profileAct
  dsimp only
  split
  · exact .inl rfl
  split
  · exact .inl rfl
  generalize (if protect = .high then _ else none : Option Byte) = refusal
  cases refusal with
  | some index => exact .inl rfl
  | none =>
    dsimp only
    split <;> exact .inr ⟨_, rfl⟩

/-- A Start is refused or writes its service, and commits units at most (R36 to R39). -/
theorem startAct_cases :
    (startAct n f s).1 = s ∨
      ∃ sv units, (startAct n f s).1 = { s.setService n sv with committed := units } := by
  unfold startAct
  dsimp only
  split
  · split
    · exact .inl rfl
    split
    · exact .inl rfl
    · exact .inr ⟨_, _, rfl⟩
  · split
    · exact .inl rfl
    · exact .inr ⟨_, s.committed, rfl⟩
  · split
    · exact .inl rfl
    · exact .inr ⟨_, s.committed, rfl⟩
  · exact .inl rfl

theorem haltAct_cases : (haltAct n f s).1 = s ∨ ∃ sv, (haltAct n f s).1 = s.setService n sv := by
  unfold haltAct
  dsimp only
  split
  · exact .inl rfl
  split
  · exact .inl rfl
  split
  · exact .inl rfl
  · exact .inr ⟨_, rfl⟩

theorem bypassAct_cases : (bypassAct n f s).1 = s ∨ ∃ sv, (bypassAct n f s).1 = s.setService n sv := by
  unfold bypassAct
  dsimp only
  cases (s.service n).lifecycle with
  | vacant | idle | halting => exact .inl rfl
  | bypass => exact .inl (by dsimp only; split <;> rfl)
  | priming | active | dropped =>
    dsimp only
    split
    · exact .inl rfl
    · exact .inr ⟨_, rfl⟩

theorem markAct_cases : (markAct n f s).1 = s ∨ ∃ sv, (markAct n f s).1 = s.setService n sv := by
  unfold markAct
  dsimp only
  cases (s.service n).lifecycle with
  | vacant | idle | halting => exact .inl rfl
  | priming | active | bypass | dropped =>
    dsimp only
    split
    · split
      · exact .inl rfl
      · exact .inr ⟨_, rfl⟩
    · exact .inl rfl

theorem selectAct_cases : (selectAct n f s).1 = s ∨ ∃ sv, (selectAct n f s).1 = s.setService n sv := by
  unfold selectAct
  dsimp only
  split
  · exact .inl rfl
  split
  · split
    · exact .inr ⟨_, rfl⟩
    · exact .inl rfl
  · exact .inl rfl

end

theorem notifyAct_eq (f : ControlFrame) (s : State) :
    (notifyAct f s).1 = { s with notices := (notifyAct f s).1.notices } := by
  simp only [notifyAct]
  (repeat' split) <;> rfl

/-- Ports leaves the part alone, or sets one error limit within its range (R9). -/
theorem portsAct_cases (f : ControlFrame) (s : State) :
    (portsAct f s).1 = s ∨
      ∃ p limit, 1 ≤ limit ∧ limit ≤ 4800 ∧
        (portsAct f s).1 = s.setReceiver p { s.receiver p with errorLimit := limit } := by
  unfold portsAct
  split
  · exact .inl rfl
  split
  · exact .inl rfl
  dsimp only
  split
  · exact .inl rfl
  · next p _ _ hr => exact .inr ⟨p, beNat f.payload, by omega, by omega, rfl⟩

end Sys2Proof.Machine
end

section
/-! PROOF. What each operation on a receiver keeps of its law (1.4, R9, R13). -/

namespace Sys2Proof.Machine

theorem Receiver.lawful_afterReset {limit : Nat} (h1 : 1 ≤ limit) (h2 : limit ≤ 4800) (frame : Nat) :
    (Receiver.afterReset limit).Lawful frame := by
  simp [Receiver.Lawful, Receiver.afterReset, h1, h2]

section
variable {r : Receiver} {frame : Nat} (h : r.Lawful frame)
include h

theorem Receiver.Lawful.searched (hq : r.qualifying < 8) (bits : Option (BitVec 16)) :
    (r.searched bits).Lawful frame := by
  obtain ⟨hstore, hbad, -, hnow, hlast, hrun, hclean, hslips, hlo, hhi, hsearch, hread⟩ := h
  refine ⟨hstore, hbad, ?_, hnow, hlast, hrun, hclean, hslips, hlo, hhi, hsearch, hread⟩
  show (if bits = some syncWord then r.qualifying + 1 else 0) ≤ 8
  split <;> omega

theorem Receiver.Lawful.locked (counter : BitVec 8) : (r.locked counter).Lawful frame := by
  obtain ⟨-, -, hqual, -, hlast, -, -, hslips, hlo, hhi, -, hread⟩ := h
  exact ⟨Nat.zero_le _, Nat.zero_le _, hqual, Nat.zero_le _, hlast, Nat.zero_le _, Nat.zero_le _, hslips, hlo, hhi,
    fun hs => absurd hs (by simp [Receiver.locked]), hread⟩

theorem Receiver.Lawful.lost : r.lost.Lawful frame := by
  obtain ⟨-, -, -, -, hlast, -, -, hslips, hlo, hhi, -, hread⟩ := h
  exact ⟨Nat.zero_le _, Nat.zero_le _, Nat.zero_le _, Nat.zero_le _, hlast, Nat.zero_le _, Nat.zero_le _, hslips, hlo,
    hhi, fun _ => ⟨rfl, rfl⟩, hread⟩

theorem Receiver.Lawful.withBadRun {run : Nat} (hrun : run ≤ 4) : ({ r with badRun := run } : Receiver).Lawful frame := by
  obtain ⟨hstore, -, rest⟩ := h
  exact ⟨hstore, hrun, rest⟩

theorem Receiver.Lawful.withErrorLimit {limit : Nat} (h1 : 1 ≤ limit) (h2 : limit ≤ 4800) :
    ({ r with errorLimit := limit } : Receiver).Lawful frame := by
  obtain ⟨hstore, hbad, hqual, hnow, hlast, hrun, hclean, hslips, -, -, hsearch, hread⟩ := h
  exact ⟨hstore, hbad, hqual, hnow, hlast, hrun, hclean, hslips, h1, h2, hsearch, hread⟩

/-- Outside SEARCH an arriving frame enters the store below its depth, or counts a slip (R12). -/
theorem Receiver.Lawful.arrived (hs : r.sync ≠ .search) (counter : BitVec 8) (slots : Slots) (c : Arrival) :
    (r.arrived counter slots c).Lawful frame := by
  obtain ⟨hstore, hbad, hqual, hnow, hlast, hrun, hclean, hslips, hlo, hhi, -, hread⟩ := h
  unfold Receiver.arrived
  rcases r.entered_cases (r.entryFor slots c) with ⟨hl, he⟩ | ⟨hl, he⟩ <;> rw [he]
  · refine ⟨?_, hbad, hqual, hnow, hlast, hrun, hclean, hslips, hlo, hhi, fun hx => absurd hx hs, hread⟩
    rw [List.length_append]
    exact hl
  · exact ⟨hstore, hbad, hqual, hnow, hlast, hrun, hclean, Nat.min_le_right _ _, hlo, hhi, fun hx => absurd hx hs, hread⟩

theorem Receiver.Lawful.framePosition (hs : r.sync ≠ .search) (hb : r.badRun < 4) (line : Option LinkFrame) :
    (r.framePosition line).Lawful frame := by
  have hbad : ({ r with badRun := r.badRun + 1 } : Receiver).Lawful frame := h.withBadRun hb
  unfold Receiver.framePosition
  split
  · dsimp only
    split
    · exact hbad.arrived hs _ _ _
    · exact hbad
  · exact (h.withBadRun (Nat.zero_le _)).arrived hs _ _ _
  · dsimp only
    split
    · exact hbad.arrived hs _ _ _
    · exact hbad

/-- A read of a further frame counts at most one more error, and its ABSENT frame is zeros (R10, R13). -/
theorem Receiver.Lawful.read : r.read.1.Lawful (frame + 1) := by
  obtain ⟨hstore, hbad, hqual, hnow, hlast, hrun, hclean, hslips, hlo, hhi, hsearch, -⟩ := h
  rcases r.read_cases with ⟨hc, h2, h1⟩ | ⟨hc, he, h2, h1⟩ | ⟨e, rest, hc, he, h2, h1⟩ <;> rw [h1]
  · refine ⟨hstore, hbad, hqual, Nat.le_succ_of_le hnow, hlast, hrun, hclean, hslips, hlo, hhi, hsearch, ?_⟩
    rintro f hf -
    rw [← Option.some.inj hf, h2]
  · refine ⟨hstore, hbad, hqual, Nat.le_succ_of_le hnow, hlast, hrun, hclean, Nat.min_le_right _ _, hlo, hhi, hsearch,
      ?_⟩
    intro f hf hm
    rw [← Option.some.inj hf, h2] at hm
    exact absurd hm (by simp)
  · have hshort : rest.length ≤ Config.storeDepth := by
      rw [he, List.length_cons] at hstore
      exact Nat.le_of_succ_le hstore
    have hcount : r.errorsNow + (if e.error then 1 else 0) ≤ frame + 1 := by split <;> omega
    have hnotSearch : r.sync ≠ .search := fun hs => by simp [(hsearch hs).1] at he
    refine ⟨hshort, hbad, hqual, hcount, hlast, hrun, hclean, hslips, hlo, hhi, fun hs => absurd hs hnotSearch, ?_⟩
    intro f hf hm
    rw [← Option.some.inj hf, h2] at hm
    cases hmark : e.mark <;> simp [hmark, FrameMark.read] at hm

end

/-- The assessment moves a full subblock's count to the last one and begins the next from 0 (R10). -/
theorem Receiver.Lawful.assessed {r : Receiver} (h : r.Lawful 4800) : r.assessed.1.Lawful 0 := by
  obtain ⟨hstore, hbad, hqual, hnow, hlast, hrun, hclean, hslips, hlo, hhi, hsearch, hread⟩ := h
  rw [Receiver.assessed_table]
  split
  · exact ⟨hstore, hbad, hqual, Nat.le_refl _, Nat.zero_le _, hrun, hclean, hslips, hlo, hhi, hsearch, hread⟩
  · next hs =>
    split
    · refine ⟨hstore, hbad, hqual, Nat.le_refl _, hnow, Nat.min_le_right _ _, Nat.zero_le _, hslips, hlo, hhi, ?_, hread⟩
      intro hx
      dsimp only at hx
      split at hx
      · exact absurd hx (by simp)
      · exact absurd hx hs
    · refine ⟨hstore, hbad, hqual, Nat.le_refl _, hnow, Nat.zero_le _, Nat.min_le_right _ _, hslips, hlo, hhi, ?_, hread⟩
      intro hx
      dsimp only at hx
      split at hx
      · exact absurd hx (by simp)
      · exact absurd hx hs

end Sys2Proof.Machine
end

section
/-! PROOF. Every command keeps the law of the timebase (R1, R2, R4, R6 to R13): O55. -/

namespace Sys2Proof.Machine

/-! ### Updates and the law -/

theorem State.TimebaseLaw.receiver {s : State} (h : s.TimebaseLaw) (p : Port) : (s.receiver p).Lawful s.frame := by
  obtain ⟨-, -, ha, hb⟩ := h
  cases p
  · exact ha
  · exact hb

theorem State.TimebaseLaw.setReceiver {s : State} (h : s.TimebaseLaw) (p : Port) {r : Receiver}
    (hr : r.Lawful s.frame) : (s.setReceiver p r).TimebaseLaw := by
  obtain ⟨hf, hc, ha, hb⟩ := h
  cases p
  · exact ⟨hf, hc, hr, hb⟩
  · exact ⟨hf, hc, ha, hr⟩

theorem State.TimebaseLaw.withClock {s : State} (h : s.TimebaseLaw) {c : Clock} (hc : c.Lawful) :
    ({ s with clock := c } : State).TimebaseLaw := by
  obtain ⟨hf, -, ha, hb⟩ := h
  exact ⟨hf, hc, ha, hb⟩

theorem State.TimebaseLaw.kick {s : State} (h : s.TimebaseLaw) : s.kick.TimebaseLaw := by
  rw [State.kick_eq]
  exact h

theorem State.TimebaseLaw.portChanged {s : State} (h : s.TimebaseLaw) (p : Port) {r : Receiver}
    (hr : r.Lawful s.frame) (raised : Bool) : (s.portChanged p r raised).TimebaseLaw := by
  cases raised <;> exact h.setReceiver p hr

/-- A served request keeps the law when its act does. -/
theorem serve_timebaseLaw {s : State} {kind : Byte} {act : ControlFrame → State → State × Answer}
    (hact : ∀ f t, t.TimebaseLaw → (act f t).1.TimebaseLaw) (h : s.TimebaseLaw) : (serve kind act s).TimebaseLaw :=
  serve_keeps (P := State.TimebaseLaw) (fun _ ht => ht) hact
    (fun t frame mark (ht : (t.appendReply frame mark).TimebaseLaw) => ht.kick) h

theorem serve_onService_timebaseLaw {s : State} {kind : Byte}
    {act : ServiceIndex → ControlFrame → State → State × Answer}
    (hact : ∀ n f t, t.TimebaseLaw → (act n f t).1.TimebaseLaw) (h : s.TimebaseLaw) :
    (serve kind (onService act) s).TimebaseLaw :=
  serve_timebaseLaw (fun f _ ht => onService_keeps f hact ht) h

/-! ### The clock unit -/

theorem missingEdge_timebaseLaw {s : State} (h : s.TimebaseLaw) : (missingEdge s).TimebaseLaw := by
  obtain ⟨-, ⟨hm, hn, hi, hf⟩, -⟩ := id h
  unfold missingEdge
  split
  · next hc =>
    simp only [Bool.and_eq_true, decide_eq_true_eq] at hc
    exact h.withClock ⟨hc.2, hn, fun _ => rfl, fun hx => absurd hx (by simp)⟩
  · exact h

theorem clockToInternal_timebaseLaw {s : State} (h : s.TimebaseLaw) : (clockToInternal s).TimebaseLaw := by
  obtain ⟨-, ⟨hm, -⟩, -⟩ := id h
  unfold clockToInternal
  split
  · exact State.TimebaseLaw.kick (h.withClock ⟨hm, Nat.zero_le _, fun _ => rfl, fun hx => absurd hx (by simp)⟩)
  · exact h

theorem clockToReference_timebaseLaw {s : State} (h : s.TimebaseLaw) : (clockToReference s).TimebaseLaw := by
  obtain ⟨-, ⟨-, hn, -⟩, -⟩ := id h
  unfold clockToReference
  split
  · exact State.TimebaseLaw.kick (h.withClock ⟨Nat.zero_le _, hn, fun hx => absurd hx (by simp), fun _ => rfl⟩)
  · exact h

theorem Clock.Lawful.edge {c : Clock} (h : c.Lawful) (before : Rat) (since : Option Rat) :
    (c.edge before since).Lawful := by
  obtain ⟨hm, hn, hi, hf⟩ := h
  cases hs : c.source with
  | reference =>
    rw [Clock.edge_reference hs]
    split
    · exact ⟨Nat.zero_le _, hn, fun _ => rfl, fun hx => absurd hx (by simp)⟩
    · exact ⟨hm, hn, hi, hf⟩
  | internal =>
    have hcount : (c.edge before since).returns ≤ 4800 := by
      simp only [Clock.edge, hs]
      split
      · dsimp only
        split <;> omega
      · exact hn
    rw [Clock.edge_internal hs]
    exact ⟨hm, hcount, hi, hf⟩

theorem refclkEdge_timebaseLaw {s : State} (h : s.TimebaseLaw) (before : Rat) (since : Option Rat) :
    (refclkEdge before since s).TimebaseLaw := by
  obtain ⟨-, hc, -⟩ := id h
  unfold refclkEdge
  split
  · exact h.withClock (hc.edge before since)
  · exact h

/-! ### The receivers and the time base -/

theorem searchFramePosition_timebaseLaw {s : State} (h : s.TimebaseLaw) (p : Port) (bits : Option (BitVec 16)) :
    (searchFramePosition p bits s).TimebaseLaw := by
  unfold searchFramePosition
  dsimp only
  split
  · next hc =>
    simp only [Bool.and_eq_true, decide_eq_true_eq] at hc
    exact h.portChanged p ((h.receiver p).searched hc.2 bits) _
  · exact h

theorem portLock_timebaseLaw {s : State} (h : s.TimebaseLaw) (p : Port) (body : LinkBody) :
    (portLock p body s).TimebaseLaw := by
  unfold portLock
  dsimp only
  split
  · exact (h.portChanged p (((h.receiver p).locked _).arrived (by simp [Receiver.locked]) _ _ _) _).kick
  · exact h

theorem linkFrameArrival_timebaseLaw {s : State} (h : s.TimebaseLaw) (p : Port) (line : Option LinkFrame) :
    (linkFrameArrival p line s).TimebaseLaw := by
  unfold linkFrameArrival
  dsimp only
  split
  · next hc =>
    simp only [Bool.and_eq_true, decide_eq_true_eq, bne_iff_ne] at hc
    obtain ⟨⟨-, hs⟩, hb⟩ := hc
    exact (h.portChanged p ((h.receiver p).framePosition hs hb line) _).kick
  · exact h

theorem portLossOfSync_timebaseLaw {s : State} (h : s.TimebaseLaw) (p : Port) : (portLossOfSync p s).TimebaseLaw := by
  unfold portLossOfSync
  dsimp only
  split
  · exact (h.portChanged p (h.receiver p).lost _).kick
  · exact h

theorem Clock.Lawful.frameBegun {c : Clock} (h : c.Lawful) : c.frameBegun.Lawful := by
  obtain ⟨hm, hn, hi, hf⟩ := h
  cases hs : c.source <;> simp [Clock.Lawful, Clock.frameBegun, ClockSource.frameStart, hs, hm, hn]

theorem outputFrame_timebaseLaw {s : State} (h : s.TimebaseLaw) : (outputFrame s).TimebaseLaw := by
  obtain ⟨-, hc, ha, hb⟩ := id h
  unfold outputFrame
  split
  · next hd =>
    simp only [Bool.and_eq_true, decide_eq_true_eq] at hd
    exact ⟨hd.2, hc.frameBegun, ha.read, hb.read⟩
  · exact h

theorem subblockEnd_timebaseLaw {s : State} (h : s.TimebaseLaw) (order : List CloseItem) :
    (subblockEnd order s).TimebaseLaw := by
  by_cases hd : s.operating = true ∧ s.frame = 4800
  · obtain ⟨ho, hf⟩ := hd
    obtain ⟨-, hc, ha, hb⟩ := id h
    rw [hf] at ha hb
    have hA : (subblockEnd order s).portA = s.portA.assessed.1 := subblockEnd_receiver order ho hf .a
    have hB : (subblockEnd order s).portB = s.portB.assessed.1 := subblockEnd_receiver order ho hf .b
    rw [subblockEnd_eq order ho hf, hA, hB]
    exact ⟨Nat.zero_le _, hc, ha.assessed, hb.assessed⟩
  · have hd' : (s.operating && s.frame == Config.framesPerSubblock) = false := by simpa using hd
    rw [subblockEnd, hd']
    exact h

end Sys2Proof.Machine
end

section
/-! PROOF. The load of the image (R34, R184): what each stored map does to owners and services. -/

namespace Sys2Proof.Machine

/-! ### Slot tables under a new map (R28) -/

theorem State.remapped_table (s : State) (n : ServiceIndex) (channels : List ChannelMap) (id : TableId) :
    (s.remapped n channels).table id = SlotTable.remapped (s.table id) id n channels := by
  cases id <;> rfl

theorem option_filter_eq_self {α : Type} {x : Option α} {p : α → Bool} (h : ∀ a, x = some a → p a = true) :
    x.filter p = x := by
  cases x with
  | none => rfl
  | some a => rw [Option.filter_some, if_pos (h a rfl)]

theorem SlotTable.freed_get (t : SlotTable) (n : ServiceIndex) (slot : SlotIndex) :
    (SlotTable.freed t n).get slot = (t.get slot).filter fun o => decide (o.service ≠ n) := by
  rw [SlotTable.freed, Vector.get_ofFn]
  cases h : t.get slot with
  | none => rfl
  | some o => by_cases ho : o.service = n <;> simp [Option.filter, ho]

/-- A slot of an assigned table is as it was, or one of those named, and then the service's. -/
theorem SlotTable.assigned_get (t : SlotTable) (n : ServiceIndex) (fields : List MapField) (slot : SlotIndex) :
    (SlotTable.assigned t n fields).get slot = t.get slot ∨
      (∃ f ∈ fields, f.slot = slot) ∧ ∃ o, (SlotTable.assigned t n fields).get slot = some o ∧ o.service = n := by
  unfold SlotTable.assigned
  induction fields generalizing t with
  | nil => exact .inl rfl
  | cons f fields ih =>
    rw [List.foldl_cons]
    rcases ih (t.set f.slot (some { service := n, channel := Fin.ofNat 6 f.channel })) with h | ⟨⟨g, hg, hslot⟩, h⟩
    · by_cases hf : f.slot = slot
      · subst hf
        refine .inr ⟨⟨f, List.mem_cons_self, rfl⟩, _, h.trans (Vector.getElem_set_self f.slot.isLt), rfl⟩
      · exact .inl (h.trans (Vector.getElem_set_ne f.slot.isLt slot.isLt fun he => hf (Fin.ext he)))
    · exact .inr ⟨⟨g, List.mem_cons_of_mem _ hg, hslot⟩, h⟩

/-! ### One stored map (R34) -/

/-- A map that passes its checks names no slot that another service owns (R27). -/
theorem owner_of_checkMap {owner : TableId → SlotIndex → Option Owner} {n : ServiceIndex} {payload : List Byte}
    {layout : Layout} {channels : List ChannelMap} (h : checkMap owner n payload = .ok (layout, channels))
    {f : MapField} (hf : f ∈ mapFields channels) {o : Owner} (ho : owner f.table f.slot = some o) : o.service = n := by
  unfold checkMap at h
  split at h
  · cases h
  split at h
  · cases h
  split at h
  · cases h
  next hnone =>
    cases h
    have hfree := List.findSome?_eq_none_iff.mp hnone f hf
    rw [ho] at hfree
    by_contra hne
    simp [hne] at hfree

section
variable {i : Image} {s : State} {n : ServiceIndex}

theorem State.applyStored_of_none (h : (i.services.get n).map = none) : State.applyStored i s n = s := by
  simp [State.applyStored, h]

theorem State.applyStored_of_error {payload : List Byte} {refusal : MapRefusal}
    (h : (i.services.get n).map = some payload) (hc : checkMap s.owner n payload = .error refusal) :
    State.applyStored i s n = s := by
  simp [State.applyStored, h, hc]

theorem State.applyStored_of_ok {payload : List Byte} {layout : Layout} {channels : List ChannelMap}
    (h : (i.services.get n).map = some payload) (hc : checkMap s.owner n payload = .ok (layout, channels)) :
    State.applyStored i s n = s.mapService n layout channels := by
  simp [State.applyStored, h, hc]

/-- A stored map is passed over or applied. -/
theorem State.applyStored_cases (i : Image) (s : State) (n : ServiceIndex) :
    State.applyStored i s n = s ∨
      ∃ payload layout channels, checkMap s.owner n payload = .ok (layout, channels) ∧
        State.applyStored i s n = s.mapService n layout channels := by
  cases h : (i.services.get n).map with
  | none => exact .inl (State.applyStored_of_none h)
  | some payload =>
    rcases hc : checkMap s.owner n payload with refusal | ⟨layout, channels⟩
    · exact .inl (State.applyStored_of_error h hc)
    · exact .inr ⟨payload, layout, channels, hc, State.applyStored_of_ok h hc⟩

/-- Where service `n` owns nothing, its stored map takes FREE slots alone. -/
theorem State.applyStored_owner (h : ∀ id slot o, s.owner id slot = some o → o.service ≠ n) (id : TableId)
    (slot : SlotIndex) :
    (State.applyStored i s n).owner id slot = s.owner id slot ∨
      s.owner id slot = none ∧ ∃ o, (State.applyStored i s n).owner id slot = some o ∧ o.service = n := by
  rcases State.applyStored_cases i s n with he | ⟨payload, layout, channels, hc, he⟩ <;> rw [he]
  · exact .inl rfl
  have hfreed : ∀ slot, (SlotTable.freed (s.table id) n).get slot = s.owner id slot := by
    intro slot
    rw [SlotTable.freed_get]
    exact option_filter_eq_self fun o ho => decide_eq_true (h id slot o ho)
  have howner : (s.mapService n layout channels).owner id slot =
      (SlotTable.remapped (s.table id) id n channels).get slot := by
    rw [State.mapService, State.setService_owner, State.owner, State.remapped_table]
  rw [howner, SlotTable.remapped]
  rcases SlotTable.assigned_get (SlotTable.freed (s.table id) n) n
    ((mapFields channels).filter fun f => f.table == id) slot with heq | ⟨⟨f, hf, rfl⟩, hnew⟩
  · exact .inl (heq.trans (hfreed slot))
  · obtain ⟨hmem, hid⟩ := List.mem_filter.mp hf
    have hid : f.table = id := by simpa using hid
    subst hid
    refine .inr ⟨?_, hnew⟩
    cases ho : s.owner f.table f.slot with
    | none => rfl
    | some o => exact absurd (owner_of_checkMap hc hmem ho) (h _ _ o ho)

theorem State.applyStored_service_other {m : ServiceIndex} (h : m ≠ n) :
    (State.applyStored i s n).service m = s.service m := by
  rcases State.applyStored_cases i s n with he | ⟨payload, layout, channels, -, he⟩ <;> rw [he]
  rw [State.mapService, State.service_setService_other _ _ h, State.remapped_service]

end

/-! ### All stored maps in index order -/

section
variable {i : Image}

theorem State.applyStored_all_owner {services : List ServiceIndex} (hn : services.Nodup) {s : State}
    (h : ∀ id slot o, s.owner id slot = some o → o.service ∉ services) (id : TableId) (slot : SlotIndex) :
    (services.foldl (State.applyStored i) s).owner id slot = s.owner id slot ∨
      s.owner id slot = none ∧
        ∃ o, (services.foldl (State.applyStored i) s).owner id slot = some o ∧ o.service ∈ services := by
  induction services generalizing s with
  | nil => exact .inl rfl
  | cons n services ih =>
    obtain ⟨hmem, hn⟩ := List.nodup_cons.mp hn
    have hstep := State.applyStored_owner (i := i) (n := n) (s := s)
      fun id slot o ho he => h id slot o ho (he ▸ List.mem_cons_self)
    have hnext : ∀ id slot o, (State.applyStored i s n).owner id slot = some o → o.service ∉ services := by
      intro id slot o ho
      rcases hstep id slot with heq | ⟨-, o', ho', hs'⟩
      · exact fun hx => h id slot o (heq.symm.trans ho) (List.mem_cons_of_mem _ hx)
      · rw [ho'] at ho
        rw [← Option.some.inj ho, hs']
        exact hmem
    rw [List.foldl_cons]
    rcases ih hn hnext with heq | ⟨hnone, o, ho, hs⟩
    · rw [heq]
      exact (hstep id slot).imp_right fun ⟨hfree, o, ho, hs⟩ => ⟨hfree, o, ho, hs ▸ List.mem_cons_self⟩
    · refine .inr ⟨?_, o, ho, List.mem_cons_of_mem _ hs⟩
      rcases hstep id slot with heq | ⟨hfree, -⟩
      · exact heq.symm.trans hnone
      · exact hfree

theorem State.applyStored_all_service_other {services : List ServiceIndex} {n : ServiceIndex} (h : n ∉ services)
    (s : State) : (services.foldl (State.applyStored i) s).service n = s.service n := by
  induction services generalizing s with
  | nil => rfl
  | cons m services ih =>
    rw [List.mem_cons, not_or] at h
    rw [List.foldl_cons, ih h.2, State.applyStored_service_other h.1]

end

/-- A record as a load leaves it: VACANT with its profile, or with a map applied to that (R34). -/
def LoadedService (p : Profile) (sv : Service) : Prop :=
  sv = Service.loaded p ∨ ∃ layout channels, sv = (Service.loaded p).mapped layout channels

/-- The cost of an accepted map (R32). -/
theorem costOf_reserveOf (layout : Layout) (channels : List ChannelMap) :
    costOf layout (reserveOf channels) =
      (if ∀ ch ∈ channels, ch.reserve.isSome = true then 4 else 3) * layout.channels := by
  unfold costOf reserveOf
  simp only [List.all_eq_true]
  split <;> rfl

/-- What the stored map of service `n` leaves of it, when the tables before it hold the maps of the services before (R34). -/
theorem State.mapLoaded_of_applied {i : Image} {s t : State} {n : ServiceIndex} {p : Profile}
    (hbefore : ∀ id slot, ((t.owner id slot).filter fun o => decide (o.service < n)) = s.owner id slot)
    (ht : t.service n = (State.applyStored i s n).service n) (hs : s.service n = Service.loaded p) :
    t.MapLoaded n (i.services.get n).map ∧ LoadedService p (t.service n) := by
  have hb : (fun id slot => (t.owner id slot).filter fun o => decide (o.service < n)) = s.owner :=
    funext₂ hbefore
  unfold State.MapLoaded
  dsimp only
  rw [hb, ht]
  cases h : (i.services.get n).map with
  | none =>
    rw [State.applyStored_of_none h, hs]
    exact ⟨⟨rfl, rfl, rfl, rfl⟩, .inl rfl⟩
  | some payload =>
    rw [Option.map_some]
    rcases hc : checkMap s.owner n payload with refusal | ⟨layout, channels⟩
    · rw [State.applyStored_of_error h hc, hs]
      exact ⟨⟨rfl, rfl, rfl, rfl⟩, .inl rfl⟩
    · rw [State.applyStored_of_ok h hc, State.mapService, State.service_setService_same, hs]
      exact ⟨⟨rfl, rfl, rfl, costOf_reserveOf layout channels⟩, .inr ⟨layout, channels, rfl⟩⟩

/-- All stored maps, applied in index order to a part whose slots are FREE to them (R34). -/
theorem State.applyStored_all_mapLoaded {i : Image} {services : List ServiceIndex} (hord : services.Pairwise (· < ·))
    {s : State} (howner : ∀ id slot o, s.owner id slot = some o → ∀ n ∈ services, o.service < n)
    {profiles : ServiceIndex → Profile} (hs : ∀ n ∈ services, s.service n = Service.loaded (profiles n))
    {n : ServiceIndex} (hn : n ∈ services) :
    (services.foldl (State.applyStored i) s).MapLoaded n (i.services.get n).map ∧
      LoadedService (profiles n) ((services.foldl (State.applyStored i) s).service n) := by
  induction services generalizing s with
  | nil => exact absurd hn List.not_mem_nil
  | cons m services ih =>
    have hnodup : (m :: services).Nodup := hord.imp fun hlt => ne_of_lt hlt
    have hall := State.applyStored_all_owner (i := i) hnodup (s := s)
      fun id slot o ho hx => lt_irrefl _ (howner id slot o ho _ hx)
    obtain ⟨hm, hord⟩ := List.pairwise_cons.mp hord
    obtain ⟨hnot, hnodup⟩ := List.nodup_cons.mp hnodup
    rcases List.mem_cons.mp hn with rfl | hmem
    · refine State.mapLoaded_of_applied (s := s) (fun id slot => ?_)
        (State.applyStored_all_service_other hnot _) (hs n List.mem_cons_self)
      rcases hall id slot with heq | ⟨hfree, o, ho, hin⟩
      · rw [heq]
        exact option_filter_eq_self fun o ho => decide_eq_true (howner id slot o ho n List.mem_cons_self)
      · have hge : ¬o.service < n := by
          rcases List.mem_cons.mp hin with he | hlater
          · exact he ▸ lt_irrefl _
          · exact (hm _ hlater).not_gt
        rw [ho, hfree, Option.filter_some, if_neg (by simpa using hge)]
    · refine ih hord (fun id slot o ho k hk => ?_) (fun k hk => ?_) hmem
      · rcases State.applyStored_owner (i := i) (n := m) (s := s)
          (fun id slot o ho => ne_of_lt (howner id slot o ho m List.mem_cons_self)) id slot with heq | ⟨-, o', ho', hs'⟩
        · exact howner id slot o (heq.symm.trans ho) k (List.mem_cons_of_mem _ hk)
        · rw [ho'] at ho
          rw [← Option.some.inj ho, hs']
          exact hm k hk
      · rw [State.applyStored_service_other (n := m) (m := k) fun he => hnot (he ▸ hk)]
        exact hs k (List.mem_cons_of_mem _ hk)

/-! ### The whole load (R184) -/

theorem loadedLimit_eq (stored : Nat) : loadedLimit stored = if 1 ≤ stored ∧ stored ≤ 4800 then stored else 48 := by
  unfold loadedLimit
  split
  · next h => rw [if_neg (by omega)]
  · next h => rw [if_pos (by omega)]

theorem loadedLimit_within (stored : Nat) : 1 ≤ loadedLimit stored ∧ loadedLimit stored ≤ 4800 := by
  rw [loadedLimit_eq]
  split <;> omega

/-- What a load keeps, and the form of what it sets (R16, R34, R183). -/
theorem State.reloaded_eq (s : State) :
    s.reloaded =
      { s with
        portA := Receiver.afterReset s.reloaded.portA.errorLimit, portB := Receiver.afterReset s.reloaded.portB.errorLimit
        tableA := s.reloaded.tableA, tableB := s.reloaded.tableB, tableOut := s.reloaded.tableOut
        services := s.reloaded.services, notices := { entries := [], mask := s.reloaded.notices.mask }
        storeStatus := s.flash.status } := by
  unfold State.reloaded
  cases s.flash.items? with
  | none => rfl
  | some i =>
    simp only [State.loadedFrom]
    rw [State.applyStored_all_eq]
    rfl

theorem State.reloaded_of_none {s : State} (h : s.flash.items? = none) :
    s.reloaded = { s.loadedFrom none with storeStatus := s.flash.status } := by
  rw [State.reloaded, h]

theorem State.reloaded_of_some {s : State} {i : Image} (h : s.flash.items? = some i) :
    s.reloaded = { s.loadedFrom (some i) with storeStatus := s.flash.status } := by
  rw [State.reloaded, h]

/-- Without an image the load leaves the factory defaults (R34). -/
theorem State.loadedFrom_none_factoryDefaults (s : State) : (s.loadedFrom none).FactoryDefaults := by
  have hservice : ∀ n, (s.loadedFrom none).service n = Service.loaded Profile.factory :=
    fun n => Vector.get_replicate _ _ n
  refine ⟨rfl, fun p => by cases p <;> rfl, fun id slot => ?_, fun n => ?_⟩
  · cases id <;> exact Vector.get_replicate _ _ slot
  · rw [hservice]
    exact ⟨rfl, rfl⟩

theorem State.loadedFrom_none_service (s : State) (n : ServiceIndex) :
    LoadedService Profile.factory ((s.loadedFrom none).service n) :=
  .inl (Vector.get_replicate _ _ n)

/-- The limits, mask and profiles of an image, with FREE slot tables, before its maps are applied (R34, R184). -/
def State.loadBase (s : State) (i : Image) : State :=
  { s with
    portA := Receiver.afterReset (loadedLimit i.limitA)
    portB := Receiver.afterReset (loadedLimit i.limitB)
    tableA := Vector.replicate 32 none
    tableB := Vector.replicate 32 none
    tableOut := Vector.replicate 32 none
    services := Vector.ofFn fun n => Service.loaded (loadedProfile (i.services.get n).profile)
    notices := { entries := [], mask := i.mask } }

theorem State.loadedFrom_some (s : State) (i : Image) :
    s.loadedFrom (some i) = allServices.foldl (State.applyStored i) (s.loadBase i) := rfl

theorem State.loadBase_owner (s : State) (i : Image) (id : TableId) (slot : SlotIndex) :
    (s.loadBase i).owner id slot = none := by
  cases id <;> exact Vector.get_replicate _ _ slot

theorem State.loadBase_service (s : State) (i : Image) (n : ServiceIndex) :
    (s.loadBase i).service n = Service.loaded (loadedProfile (i.services.get n).profile) :=
  Vector.get_ofFn _ n

/-- With an image, every service has its stored profile and map (R34, R184). -/
theorem State.loadedFrom_some_service (s : State) (i : Image) (n : ServiceIndex) :
    (s.loadedFrom (some i)).MapLoaded n (i.services.get n).map ∧
      LoadedService (loadedProfile (i.services.get n).profile) ((s.loadedFrom (some i)).service n) := by
  rw [State.loadedFrom_some]
  refine State.applyStored_all_mapLoaded (profiles := fun n => loadedProfile (i.services.get n).profile) (by decide)
    (fun id slot o ho => ?_) (fun n _ => s.loadBase_service i n) (allServices_eq ▸ List.mem_finRange n)
  rw [State.loadBase_owner] at ho
  cases ho

theorem State.loadedFrom_some_mask (s : State) (i : Image) : (s.loadedFrom (some i)).notices.mask = i.mask := by
  rw [State.loadedFrom_some, State.applyStored_all_eq]
  rfl

theorem State.loadedFrom_some_portA (s : State) (i : Image) :
    (s.loadedFrom (some i)).portA = Receiver.afterReset (loadedLimit i.limitA) := by
  rw [State.loadedFrom_some, State.applyStored_all_eq]
  rfl

theorem State.loadedFrom_some_portB (s : State) (i : Image) :
    (s.loadedFrom (some i)).portB = Receiver.afterReset (loadedLimit i.limitB) := by
  rw [State.loadedFrom_some, State.applyStored_all_eq]
  rfl

theorem LoadedService.profile_eq {p : Profile} {sv : Service} (h : LoadedService p sv) : sv.profile = p := by
  rcases h with rfl | ⟨layout, channels, rfl⟩ <;> rfl

/-- Every loaded record has its units as a reset leaves them (R74, R92, R105, R139, R161). -/
theorem LoadedService.unitsCleared {p : Profile} {sv : Service} (h : LoadedService p sv) : sv.UnitsCleared := by
  rcases h with rfl | ⟨layout, channels, rfl⟩
  · exact ⟨rfl, rfl, rfl, rfl, rfl, rfl, rfl, rfl, rfl, rfl, rfl, fun _ => ⟨rfl, rfl⟩, fun hv => absurd rfl hv⟩
  · refine ⟨rfl, rfl, rfl, rfl, rfl, rfl, rfl, rfl, ?_, rfl, rfl, fun hv => absurd hv (by simp [Service.mapped]),
      fun _ => ⟨rfl, rfl⟩⟩
    simp [Service.mapped, Service.loaded, Feeds.vacant]

/-- The configuration after a load is that of its flash (R34, R184). -/
theorem State.reloaded_loadedFrom (s : State) : s.reloaded.LoadedFrom s.flash := by
  cases hf : s.flash with
  | blank =>
    rw [State.reloaded_of_none (by rw [hf]; rfl), hf]
    exact ⟨rfl, s.loadedFrom_none_factoryDefaults⟩
  | written i check =>
    unfold State.LoadedFrom
    dsimp only
    split
    · next hc =>
      have hsealed : s.flash = .sealed i := by rw [hf, ← hc]; rfl
      rw [State.reloaded_of_some (Flash.items_eq_some.mpr hsealed)]
      refine ⟨?_, s.loadedFrom_some_mask i, fun p => ?_, fun n => ?_⟩
      · rw [hsealed]
        exact Flash.sealed_status i
      · cases p
        · exact (congrArg Receiver.errorLimit (s.loadedFrom_some_portA i)).trans (loadedLimit_eq _)
        · exact (congrArg Receiver.errorLimit (s.loadedFrom_some_portB i)).trans (loadedLimit_eq _)
      · obtain ⟨hmap, hsv⟩ := s.loadedFrom_some_service i n
        exact ⟨hsv.profile_eq, hmap⟩
    · next hc =>
      have hstatus : s.flash.status = .invalid := by
        rw [hf]
        exact if_neg hc
      rw [State.reloaded_of_none (Flash.items_eq_none.mpr (by rw [hstatus]; decide)), hstatus]
      exact ⟨rfl, s.loadedFrom_none_factoryDefaults⟩

theorem State.reloaded_unitsCleared (s : State) (n : ServiceIndex) : (s.reloaded.service n).UnitsCleared := by
  cases h : s.flash.items? with
  | none =>
    rw [State.reloaded_of_none h]
    exact (s.loadedFrom_none_service n).unitsCleared
  | some i =>
    rw [State.reloaded_of_some h]
    exact (s.loadedFrom_some_service i n).2.unitsCleared

/-- Every error limit after a load is in its range (R9, R184). -/
theorem State.reloaded_errorLimit (s : State) (p : Port) :
    1 ≤ (s.reloaded.receiver p).errorLimit ∧ (s.reloaded.receiver p).errorLimit ≤ 4800 := by
  cases h : s.flash.items? with
  | none =>
    have hlimit : (s.reloaded.receiver p).errorLimit = 48 := by
      rw [State.reloaded_of_none h]
      cases p <;> rfl
    omega
  | some i =>
    rw [State.reloaded_of_some h]
    cases p
    · exact (congrArg Receiver.errorLimit (s.loadedFrom_some_portA i)) ▸ loadedLimit_within i.limitA
    · exact (congrArg Receiver.errorLimit (s.loadedFrom_some_portB i)) ▸ loadedLimit_within i.limitB

end Sys2Proof.Machine
end

section
/-! PROOF. The end of a reset (R55, R187, R189): autostart, READY, and what they leave alone. -/

namespace Sys2Proof.Machine

/-- Autostart of one service starts it, or leaves its record. -/
theorem State.autostart_service (s : State) (m n : ServiceIndex) :
    (s.autostart m).service n = s.service n ∨
      (s.service n).lifecycle = .idle ∧ (s.service n).profile.autostart = true ∧
        (s.autostart m).service n = (s.service n).started false := by
  unfold State.autostart
  dsimp only
  split
  · next hc =>
    obtain ⟨hi, ha⟩ := hc
    split
    · rw [State.raise_service]
      by_cases h : n = m
      · subst h
        exact .inr ⟨hi, ha, s.service_setService_same n _⟩
      · exact .inl (s.service_setService_other _ h)
    · exact .inl (State.raise_service ..)
  · exact .inl rfl

/-- Autostart of all services starts each at most once. -/
theorem State.autostart_all_service (services : List ServiceIndex) (s : State) (n : ServiceIndex) :
    (services.foldl State.autostart s).service n = s.service n ∨
      (s.service n).lifecycle = .idle ∧ (s.service n).profile.autostart = true ∧
        (services.foldl State.autostart s).service n = (s.service n).started false := by
  induction services generalizing s with
  | nil => exact .inl rfl
  | cons m services ih =>
    rw [List.foldl_cons]
    rcases s.autostart_service m n with heq | ⟨hi, ha, heq⟩
    · rw [← heq]
      exact ih (s.autostart m)
    · rcases ih (s.autostart m) with hrest | ⟨hidle, -⟩
      · exact .inr ⟨hi, ha, hrest.trans heq⟩
      · rw [heq] at hidle
        exact absurd hidle (by simp [Service.started])

/-- Autostart touches services, the committed total and the notice set's entries alone. -/
theorem State.autostart_eq (s : State) (n : ServiceIndex) :
    s.autostart n =
      { s with
        services := (s.autostart n).services, committed := (s.autostart n).committed
        notices := { s.notices with entries := (s.autostart n).notices.entries } } := by
  have hform : ∃ services committed entries,
      s.autostart n = { s with services, committed, notices := { s.notices with entries } } := by
    unfold State.autostart
    dsimp only
    split
    · split
      · exact ⟨_, _, _, State.raise_eq _ _ _⟩
      · exact ⟨_, _, _, State.raise_eq _ _ _⟩
    · exact ⟨s.services, s.committed, s.notices.entries, rfl⟩
  obtain ⟨_, _, _, h⟩ := hform
  rw [h]

theorem State.autostart_all_eq (services : List ServiceIndex) (s : State) :
    services.foldl State.autostart s =
      { s with
        services := (services.foldl State.autostart s).services
        committed := (services.foldl State.autostart s).committed
        notices := { s.notices with entries := (services.foldl State.autostart s).notices.entries } } := by
  induction services generalizing s with
  | nil => rfl
  | cons n services ih =>
    rw [List.foldl_cons]
    generalize hs : s.autostart n = next
    rw [ih next, ← hs, State.autostart_eq]

/-- The end of a reset touches services, the committed total, the notice set's entries and what is being sent alone. -/
theorem State.autostarted_eq (s : State) (cause : ResetCause) :
    s.autostarted cause =
      { s with
        services := (s.autostarted cause).services, committed := (s.autostarted cause).committed
        notices := { s.notices with entries := (s.autostarted cause).notices.entries }
        control := { s.control with sending := (s.autostarted cause).control.sending } } := by
  unfold State.autostarted
  rw [State.kick_eq, State.raise_eq, State.autostart_all_eq]

theorem State.autostarted_service (s : State) (cause : ResetCause) (n : ServiceIndex) :
    (s.autostarted cause).service n = s.service n ∨
      (s.service n).lifecycle = .idle ∧ (s.service n).profile.autostart = true ∧
        (s.autostarted cause).service n = (s.service n).started false := by
  rw [State.autostarted, State.kick_service, State.raise_service]
  exact s.autostart_all_service _ n

/-- READY is in the set after every reset (R189). -/
theorem State.raised_ready (s : State) (cause : ResetCause) :
    Raised s.notices.mask (s.autostarted cause).notices .device (.ready cause s.storeStatus) := by
  have hmask : ((List.finRange 16).foldl State.autostart s).notices.mask = s.notices.mask := by
    rw [State.autostart_all_eq]
  rw [← hmask]
  exact State.raised_kick (Notices.raised_raise _ _ _ _)

section
variable (s : State) (cause : ResetCause)

@[simp] theorem State.autostarted_pins : (s.autostarted cause).pins = s.pins := by rw [State.autostarted_eq]

@[simp] theorem State.autostarted_rate : (s.autostarted cause).rate = s.rate := by rw [State.autostarted_eq]

@[simp] theorem State.autostarted_clock : (s.autostarted cause).clock = s.clock := by rw [State.autostarted_eq]

@[simp] theorem State.autostarted_frame : (s.autostarted cause).frame = s.frame := by rw [State.autostarted_eq]

@[simp] theorem State.autostarted_subblock : (s.autostarted cause).subblock = s.subblock := by
  rw [State.autostarted_eq]

@[simp] theorem State.autostarted_output : (s.autostarted cause).output = s.output := by rw [State.autostarted_eq]

@[simp] theorem State.autostarted_flash : (s.autostarted cause).flash = s.flash := by rw [State.autostarted_eq]

@[simp] theorem State.autostarted_resetCause : (s.autostarted cause).resetCause = s.resetCause := by
  rw [State.autostarted_eq]

@[simp] theorem State.autostarted_storeStatus : (s.autostarted cause).storeStatus = s.storeStatus := by
  rw [State.autostarted_eq]

@[simp] theorem State.autostarted_mask : (s.autostarted cause).notices.mask = s.notices.mask := by
  rw [State.autostarted_eq]

theorem State.autostarted_portA : (s.autostarted cause).portA = s.portA := by rw [State.autostarted_eq]

theorem State.autostarted_portB : (s.autostarted cause).portB = s.portB := by rw [State.autostarted_eq]

theorem State.autostarted_tableA : (s.autostarted cause).tableA = s.tableA := by rw [State.autostarted_eq]

theorem State.autostarted_tableB : (s.autostarted cause).tableB = s.tableB := by rw [State.autostarted_eq]

theorem State.autostarted_tableOut : (s.autostarted cause).tableOut = s.tableOut := by rw [State.autostarted_eq]

@[simp] theorem State.autostarted_receiver (p : Port) : (s.autostarted cause).receiver p = s.receiver p := by
  cases p
  · exact s.autostarted_portA cause
  · exact s.autostarted_portB cause

@[simp] theorem State.autostarted_owner : (s.autostarted cause).owner = s.owner := by
  funext id slot
  cases id <;>
    simp only [State.owner, State.table, State.autostarted_tableA, State.autostarted_tableB, State.autostarted_tableOut]

theorem State.autostarted_control :
    (s.autostarted cause).control = { s.control with sending := (s.autostarted cause).control.sending } := by
  rw [State.autostarted_eq]

end

end Sys2Proof.Machine
end

section
/-! PROOF. RESET_REQUEST_ACTS (R188): O45. -/

namespace Sys2Proof.Machine

/-- What a reset clears whatever its cause (R4, R53, R175), before autostart. -/
def State.clearedFor (s : State) (cause : ResetCause) : State :=
  { s with frame := 0, subblock := 0, committed := 0, control := ControlPort.afterReset, resetCause := cause }

/-- The configuration that a Reset request leaves, by its option (R188). -/
def State.configured (s : State) : ResetOption → State
  | .keep => s.keptOver
  | .reload => s.reloaded

theorem resetRequestActs_of_due {s : State} {option : ResetOption} (ho : s.operating = true)
    (hd : s.control.resetPhase = .due option) :
    resetRequestActs s = ((s.configured option).clearedFor .request).autostarted .request := by
  simp only [resetRequestActs, hd, ho, if_true, State.resetEnded_eq]
  cases option <;> rfl

theorem State.keptOver_service (s : State) (n : ServiceIndex) : s.keptOver.service n = (s.service n).afterReset :=
  Vector.get_ofFn _ n

theorem Service.afterReset_unitsCleared (sv : Service) : sv.afterReset.UnitsCleared := by
  by_cases hv : sv.lifecycle = .vacant
  · have hlc : sv.afterReset.lifecycle = .vacant := if_pos hv
    have hfeeds : sv.afterReset.feeds = Feeds.vacant := if_pos hv
    exact ⟨rfl, rfl, rfl, rfl, rfl, rfl, rfl, rfl, by rw [hfeeds]; rfl, by rw [hfeeds]; rfl, by rw [hfeeds]; rfl,
      fun _ => by rw [hfeeds]; exact ⟨rfl, rfl⟩, fun hn => absurd hlc hn⟩
  · have hlc : sv.afterReset.lifecycle = .idle := if_neg hv
    have hfeeds : sv.afterReset.feeds = Feeds.cleared sv.reserveMapped := if_neg hv
    exact ⟨rfl, rfl, rfl, rfl, rfl, rfl, rfl, rfl, by rw [hfeeds]; rfl, by rw [hfeeds]; rfl, by rw [hfeeds]; rfl,
      fun hx => absurd (hlc.symm.trans hx) (by decide), fun _ => by rw [hfeeds]; exact ⟨rfl, rfl⟩⟩

/-- What the configuration of a Reset request keeps, and the form of what it sets (R16, R183, R188). -/
theorem State.configured_eq (s : State) (option : ResetOption) :
    s.configured option =
      { s with
        portA := Receiver.afterReset (s.configured option).portA.errorLimit
        portB := Receiver.afterReset (s.configured option).portB.errorLimit
        tableA := (s.configured option).tableA, tableB := (s.configured option).tableB
        tableOut := (s.configured option).tableOut, services := (s.configured option).services
        notices := { entries := [], mask := (s.configured option).notices.mask }
        storeStatus := (s.configured option).storeStatus } := by
  cases option with
  | keep => rfl
  | reload =>
    show s.reloaded = _
    rw [State.reloaded_eq]
    rfl

theorem State.configured_receiver (s : State) (option : ResetOption) (p : Port) :
    (s.configured option).receiver p = Receiver.afterReset ((s.configured option).receiver p).errorLimit := by
  rw [State.configured_eq]
  cases p <;> rfl

theorem State.configured_unitsCleared (s : State) (option : ResetOption) (n : ServiceIndex) :
    ((s.configured option).service n).UnitsCleared := by
  cases option with
  | keep =>
    show (s.keptOver.service n).UnitsCleared
    rw [State.keptOver_service]
    exact Service.afterReset_unitsCleared _
  | reload => exact s.reloaded_unitsCleared n

/-- A service after a KEEP: cleared over its map and profile, and started where autostart took it. -/
theorem State.kept_service (s : State) (cause : ResetCause) (n : ServiceIndex) :
    ((s.keptOver.clearedFor cause).autostarted cause).service n = (s.service n).afterReset ∨
      (s.service n).lifecycle ≠ .vacant ∧ (s.service n).profile.autostart = true ∧
        ((s.keptOver.clearedFor cause).autostarted cause).service n = (s.service n).afterReset.started false := by
  have hcleared : (s.keptOver.clearedFor cause).service n = (s.service n).afterReset := s.keptOver_service n
  rcases (s.keptOver.clearedFor cause).autostarted_service cause n with h | ⟨hi, ha, h⟩
  · exact .inl (h.trans hcleared)
  · rw [hcleared] at hi ha h
    refine .inr ⟨fun hv => ?_, ha, h⟩
    have hvac : (s.service n).afterReset.lifecycle = .vacant := if_pos hv
    exact absurd (hvac.symm.trans hi) (by decide)

/-- What a KEEP leaves of each service after autostart (R34, R105, R188). -/
theorem State.kept_service_fields (s : State) (cause : ResetCause) (n : ServiceIndex) {sv : Service}
    (h : ((s.keptOver.clearedFor cause).autostarted cause).service n = sv) :
    sv.layout = (s.service n).layout ∧ sv.map = (s.service n).map ∧
      sv.reserveMapped = (s.service n).reserveMapped ∧ sv.cost = (s.service n).cost ∧
      sv.profile = (s.service n).profile ∧ sv.pendingProfile = none ∧
      sv.gain.g = (s.service n).profile.initialGain ∧ sv.meas.ring = [] ∧
      sv.integ.total = 0 ∧ sv.lim.totalClips = 0 ∧
      ((s.service n).lifecycle = .vacant ↔ sv.lifecycle = .vacant) ∧
      ((s.service n).lifecycle ≠ .vacant → (s.service n).profile.autostart = false → sv.lifecycle = .idle) := by
  rcases s.kept_service cause n with hsv | ⟨hv, ha, hsv⟩ <;> rw [hsv] at h <;> subst h
  · refine ⟨rfl, rfl, rfl, rfl, rfl, rfl, rfl, rfl, rfl, rfl, ?_, fun hv _ => if_neg hv⟩
    show _ ↔ (if (s.service n).lifecycle = .vacant then _ else _) = _
    split
    · next hv => exact iff_of_true hv rfl
    · next hv => exact iff_of_false hv (by decide)
  · refine ⟨rfl, rfl, rfl, rfl, rfl, rfl, rfl, rfl, rfl, rfl, iff_of_false hv (by simp [Service.started]), ?_⟩
    intro _ hoff
    exact absurd (ha.symm.trans hoff) (by decide)

/-- A vacant service is not started. -/
theorem State.autostarted_service_of_vacant {s : State} (cause : ResetCause) {n : ServiceIndex}
    (h : (s.service n).lifecycle = .vacant) : (s.autostarted cause).service n = s.service n := by
  rcases s.autostarted_service cause n with heq | ⟨hi, -⟩
  · exact heq
  · exact absurd (h.symm.trans hi) (by decide)

theorem State.reloaded_factoryDefaults {s : State} (h : s.flash.status ≠ .valid) : s.reloaded.FactoryDefaults := by
  rw [State.reloaded_of_none (Flash.items_eq_none.mpr h)]
  exact s.loadedFrom_none_factoryDefaults

/-- Settles O45: the configuration by the option, then the end that every reset has. -/
theorem resetActs : Obligations.ResetActs := by
  intro s option ho hd
  refine ⟨(s.configured option).clearedFor .request, resetRequestActs s, rfl, resetRequestActs_of_due ho hd, ?cleared,
    s.configured_unitsCleared option, ?loaded, ?keptIdle, ?_⟩
  case cleared =>
    rw [State.configured_eq]
    rfl
  case loaded =>
    rintro rfl
    exact s.reloaded_loadedFrom
  case keptIdle =>
    rintro rfl n
    have hsv : (s.keptOver.clearedFor .request).service n = (s.service n).afterReset := s.keptOver_service n
    show ((s.keptOver.clearedFor .request).service n).cost = _ ∧ _
    rw [State.configured, hsv]
    exact ⟨rfl, rfl, rfl⟩
  rw [resetRequestActs_of_due ho hd]
  refine ⟨?rate, ?clock, ?output, ?pins, ?flash, State.autostarted_frame .., State.autostarted_subblock ..,
    State.autostarted_resetCause .., ?receiver, ?inbox, ?replies, ?storeJob, ?resetPhase, ?ready, fun p => ?ports, ?kept,
    ?reloaded⟩
  case rate => rw [State.autostarted_rate, State.configured_eq]; rfl
  case clock => rw [State.autostarted_clock, State.configured_eq]; rfl
  case output => rw [State.autostarted_output, State.configured_eq]; rfl
  case pins => rw [State.autostarted_pins, State.configured_eq]; rfl
  case flash => rw [State.autostarted_flash, State.configured_eq]; rfl
  case receiver => rw [State.autostarted_control]; rfl
  case inbox => rw [State.autostarted_control]; rfl
  case replies => rw [State.autostarted_control]; rfl
  case storeJob => rw [State.autostarted_control]; rfl
  case resetPhase => rw [State.autostarted_control]; rfl
  case ready =>
    rw [State.autostarted_mask, State.autostarted_storeStatus]
    exact State.raised_ready _ _
  case ports =>
    rw [State.autostarted_receiver]
    exact s.configured_receiver option p
  case kept =>
    rintro rfl
    refine ⟨State.autostarted_owner .., State.autostarted_mask .., State.autostarted_storeStatus .., fun p => ?_,
      fun n => s.kept_service_fields .request n rfl⟩
    rw [State.autostarted_receiver]
    cases p <;> rfl
  case reloaded =>
    rintro rfl hinvalid
    obtain ⟨hmask, hlimit, howner, hservice⟩ := State.reloaded_factoryDefaults hinvalid
    refine ⟨?_, (State.autostarted_mask ..).trans hmask, fun id slot => ?_, fun p => ?_, fun n => ?_⟩
    · rw [State.autostarted_storeStatus]
      rfl
    · rw [State.autostarted_owner]
      exact howner id slot
    · rw [State.autostarted_receiver]
      exact hlimit p
    · rw [State.autostarted_service_of_vacant (s := (s.configured .reload).clearedFor .request) _ (hservice n).1]
      exact hservice n

end Sys2Proof.Machine
end

section
/-! PROOF. POWER_ON and RESET_PIN_RELEASE (R3, R162, R187): O46. -/

namespace Sys2Proof.Machine

/-- The part with its supply good and RESET released, before the start-up sequence. -/
def State.released (s : State) : State :=
  { s with pins := { s.pins with supplyGood := true, resetAsserted := false } }

/-- The part before autostart of the start-up sequence (R3, R162, R187). -/
def State.startCleared (s : State) (cause : ResetCause) (rate1 rate0 : PinLevel) (age : Option Rat) : State :=
  State.clearedFor
    { s.released.reloaded with
      pins := { s.released.pins with rate1 := rate1, rate0 := rate0 }
      rate := rateOf rate1 rate0
      clock := Clock.chosen (chosenSource age)
      output := { counter := 0, line := .steady } } cause

theorem State.released_startUp (s : State) (cause : ResetCause) (rate1 rate0 : PinLevel) (age : Option Rat) :
    s.released.startUp cause rate1 rate0 age = (s.startCleared cause rate1 rate0 age).autostarted cause := by
  rw [State.startUp, State.resetEnded_eq]
  rfl

theorem powerOn_of_dark {s : State} (hs : s.pins.supplyGood = false) (hr : s.pins.resetAsserted = false)
    (rate1 rate0 : PinLevel) (age : Option Rat) :
    powerOn rate1 rate0 age s = (s.startCleared .power rate1 rate0 age).autostarted .power := by
  rw [← State.released_startUp]
  simp [powerOn, State.released, hs, hr]

theorem resetPinRelease_of_held {s : State} (hs : s.pins.supplyGood = true) (hr : s.pins.resetAsserted = true)
    (rate1 rate0 : PinLevel) (age : Option Rat) :
    resetPinRelease rate1 rate0 age s = (s.startCleared .pin rate1 rate0 age).autostarted .pin := by
  rw [← State.released_startUp]
  simp [resetPinRelease, State.released, hs, hr]

theorem chosenSource_eq_reference {age : Option Rat} : chosenSource age = .reference ↔ ∃ x, age = some x ∧ x ≤ 3 := by
  cases age with
  | none => simp [chosenSource]
  | some t => by_cases h : t ≤ 3 <;> simp [chosenSource, h]

theorem rateOf_eq (rate1 rate0 : PinLevel) :
    rateOf rate1 rate0 =
      match rate1, rate0 with
      | .low, .low => .bps57600
      | .low, .high => .bps115200
      | .high, .low => .bps230400
      | .high, .high => .bps460800 := by
  cases rate1 <;> cases rate0 <;> rfl

theorem ClockSource.frameStart_eq (source : ClockSource) :
    source.frameStart = if source = .reference then .window else .given := by
  cases source <;> rfl

/-- The reset state right before READY is raised (log 8). -/
def State.blankStart : State :=
  { State.reset with control := ControlPort.afterReset, notices := { entries := [], mask := 0xFF } }

theorem State.startCleared_of_blank {s : State} (hp : s.pending = []) (hf : s.flash = .blank)
    (hpins : s.pins.protect = .low) :
    s.startCleared .power .low .low (some 0) = State.blankStart := by
  have hlin : lin 0 = 1048576 := by decide +kernel
  have hloaded : Service.loaded Profile.factory = Service.factory := by
    simp only [Service.loaded, Service.factory, GainComputer.initial, Profile.factory, hlin]
    rfl
  have hreloaded : s.released.reloaded = { s.released.loadedFrom none with storeStatus := .blank } := by
    rw [State.reloaded_of_none (by rw [State.released, hf]; rfl), State.released, hf]
    rfl
  rw [State.startCleared, hreloaded]
  simp only [State.clearedFor, State.released, State.loadedFrom, hp, hf, hpins, hloaded]
  rfl

/-- Where no service is mapped, autostart starts none. -/
theorem State.autostart_all_of_vacant {s : State} (h : ∀ n, (s.service n).lifecycle = .vacant)
    (services : List ServiceIndex) : services.foldl State.autostart s = s := by
  induction services with
  | nil => rfl
  | cons n services ih =>
    have hn : s.autostart n = s := by simp [State.autostart, h n]
    rw [List.foldl_cons, hn, ih]

/-- The first power-on of a blank part is the reset state (log 8). -/
theorem powerOn_of_blank {s : State} (hp : s.pending = []) (hf : s.flash = .blank) (hs : s.pins.supplyGood = false)
    (hr : s.pins.resetAsserted = false) (hprotect : s.pins.protect = .low) :
    powerOn .low .low (some 0) s = State.reset := by
  have hvacant : ∀ n, (State.blankStart.service n).lifecycle = .vacant := by decide
  rw [powerOn_of_dark hs hr, State.startCleared_of_blank hp hf hprotect, State.autostarted,
    State.autostart_all_of_vacant hvacant]
  rfl

/-- Settles O46: both start-ups end as `State.startCleared` autostarted; the first power-on is `powerOn_of_blank`. -/
theorem startUp : Obligations.StartUp := by
  refine ⟨fun s rate1 rate0 age cause c hc => ?sequence, fun s hp hf hpins => ?first⟩
  case first =>
    rw [exec_powerOn, powerOn_of_blank hp hf] <;> rw [hpins]
  have hexec : exec c s = .next ((s.startCleared cause rate1 rate0 age).autostarted cause) := by
    rcases hc with ⟨rfl, rfl, hs, hr⟩ | ⟨rfl, rfl, hs, hr⟩
    · rw [exec_powerOn, powerOn_of_dark hs hr]
    · rw [exec_resetPinRelease, resetPinRelease_of_held hs hr]
  refine ⟨s.startCleared cause rate1 rate0 age, _, hexec, rfl, s.released.reloaded_loadedFrom,
    s.released.reloaded_unitsCleared, rfl, rfl, ?entries, rfl, rfl, State.autostarted_pins .., ?rate, ?source,
    ?missing, ?returns, ?start, State.autostarted_frame .., State.autostarted_subblock .., ?counter,
    State.autostarted_resetCause .., ?flash, ?receiver, ?inbox, ?replies, ?storeJob, ?resetPhase, ?status, ?ready,
    fun p => ?ports⟩
  case entries => rw [State.startCleared, State.reloaded_eq]; rfl
  case rate => exact (State.autostarted_rate ..).trans (rateOf_eq rate1 rate0)
  case source =>
    rw [State.autostarted_clock]
    exact chosenSource_eq_reference
  case missing => rw [State.autostarted_clock]; rfl
  case returns => rw [State.autostarted_clock]; rfl
  case start =>
    rw [State.autostarted_clock]
    exact ClockSource.frameStart_eq _
  case counter => rw [State.autostarted_output]; rfl
  case flash => rw [State.autostarted_flash, State.startCleared, State.reloaded_eq]; rfl
  case receiver => rw [State.autostarted_control]; rfl
  case inbox => rw [State.autostarted_control]; rfl
  case replies => rw [State.autostarted_control]; rfl
  case storeJob => rw [State.autostarted_control]; rfl
  case resetPhase => rw [State.autostarted_control]; rfl
  case status => rw [State.autostarted_storeStatus, State.startCleared, State.reloaded_eq]; rfl
  case ready =>
    rw [State.autostarted_mask, State.autostarted_storeStatus]
    exact State.raised_ready _ _
  case ports =>
    rw [State.autostarted_receiver, State.startCleared, State.reloaded_eq]
    cases p <;> rfl

end Sys2Proof.Machine
end

section
/-! PROOF. Every command keeps the law of the timebase (R1, R2, R4, R6 to R13), requests and resets included: O55. -/

namespace Sys2Proof.Machine

/-! ### Control port and requests -/

theorem State.TimebaseLaw.appendReply {s : State} (h : s.TimebaseLaw) (frame : ControlFrame) (mark : ReplyMark) :
    (s.appendReply frame mark).TimebaseLaw := h

theorem State.TimebaseLaw.setService {s : State} (h : s.TimebaseLaw) (n : ServiceIndex) (sv : Service) :
    (s.setService n sv).TimebaseLaw := h

theorem State.TimebaseLaw.remapped {s : State} (h : s.TimebaseLaw) (n : ServiceIndex) (channels : List ChannelMap) :
    (s.remapped n channels).TimebaseLaw := h

theorem State.TimebaseLaw.frameDiscarded {s : State} (h : s.TimebaseLaw) (reason : Byte) :
    (s.frameDiscarded reason).TimebaseLaw :=
  State.TimebaseLaw.kick (s := State.appendReply _ _ _) h

theorem controlByteReceived_timebaseLaw {s : State} (h : s.TimebaseLaw) (value : Byte) (stop : PinLevel) :
    (controlByteReceived value stop s).TimebaseLaw := by
  unfold controlByteReceived
  split <;> exact h

theorem controlFrameComplete_timebaseLaw {s : State} (h : s.TimebaseLaw) : (controlFrameComplete s).TimebaseLaw := by
  unfold controlFrameComplete
  split
  · split
    · split
      · unfold State.handOver
        split
        · exact h
        · exact State.TimebaseLaw.kick (s := State.appendReply _ _ _) h
      · exact h.frameDiscarded _
    · exact h
  · exact h

theorem lengthFault_timebaseLaw {s : State} (h : s.TimebaseLaw) : (lengthFault s).TimebaseLaw := by
  unfold lengthFault
  split
  · split
    · exact h.frameDiscarded _
    · exact h
  · exact h

theorem frameTimeout_timebaseLaw {s : State} (h : s.TimebaseLaw) : (frameTimeout s).TimebaseLaw := by
  unfold frameTimeout
  split
  · split
    · exact h.frameDiscarded _
    · exact h
  · exact h

theorem transmitFrameEnd_timebaseLaw {s : State} (h : s.TimebaseLaw) : (transmitFrameEnd s).TimebaseLaw := by
  unfold transmitFrameEnd
  split
  · split
    · exact h
    · exact State.TimebaseLaw.kick (s := { s with control := s.control.replyGone }) h
    · exact State.TimebaseLaw.kick
        (s := { s with control := { s.control with sending := .idle }, notices := s.notices.frameDone }) h
  · exact h

theorem unknownKind_timebaseLaw {s : State} (h : s.TimebaseLaw) : (unknownKind s).TimebaseLaw := by
  unfold unknownKind
  split
  · exact h
  · exact State.TimebaseLaw.kick (s := State.appendReply _ _ _) h

/-- An act that leaves the part alone or writes one service keeps the law. -/
theorem State.TimebaseLaw.of_service {s t : State} {n : ServiceIndex} (h : s.TimebaseLaw)
    (ht : t = s ∨ ∃ sv, t = s.setService n sv) : t.TimebaseLaw := by
  rcases ht with rfl | ⟨sv, rfl⟩
  · exact h
  · exact h.setService n sv

theorem identifyRequest_timebaseLaw {s : State} (h : s.TimebaseLaw) : (identifyRequest s).TimebaseLaw :=
  serve_timebaseLaw (fun f t ht => (identifyAct_state f t).symm ▸ ht) h

theorem queryRequest_timebaseLaw {s : State} (h : s.TimebaseLaw) (protect : PinLevel) :
    (queryRequest protect s).TimebaseLaw :=
  serve_timebaseLaw (fun f t ht => (queryAct_state f (t.sampleProtect protect)).symm ▸ ht) h

theorem peekRequest_timebaseLaw {s : State} (h : s.TimebaseLaw) : (peekRequest s).TimebaseLaw :=
  serve_timebaseLaw (fun f t ht => (peekAct_state f t).symm ▸ ht) h

theorem mapRequest_timebaseLaw {s : State} (h : s.TimebaseLaw) : (mapRequest s).TimebaseLaw := by
  refine serve_onService_timebaseLaw (fun n f t ht => ?_) h
  rcases mapAct_cases n f t with he | ⟨layout, channels, he⟩ <;> rw [he]
  · exact ht
  · exact (ht.remapped n channels).setService n _

theorem unmapRequest_timebaseLaw {s : State} (h : s.TimebaseLaw) : (unmapRequest s).TimebaseLaw := by
  refine serve_onService_timebaseLaw (fun n f t ht => ?_) h
  rcases unmapAct_cases n f t with he | he <;> rw [he]
  · exact ht
  · exact (ht.remapped n []).setService n _

theorem profileRequest_timebaseLaw {s : State} (h : s.TimebaseLaw) (protect : PinLevel) :
    (profileRequest protect s).TimebaseLaw :=
  serve_timebaseLaw (fun f _ ht => onService_keeps f
    (fun n f t ht => State.TimebaseLaw.of_service ht (profileAct_cases n f t protect)) ht) h

theorem startRequest_timebaseLaw {s : State} (h : s.TimebaseLaw) : (startRequest s).TimebaseLaw := by
  refine serve_onService_timebaseLaw (fun n f t ht => ?_) h
  rcases startAct_cases n f t with he | ⟨sv, units, he⟩ <;> rw [he]
  · exact ht
  · exact ht

theorem haltRequest_timebaseLaw {s : State} (h : s.TimebaseLaw) : (haltRequest s).TimebaseLaw :=
  serve_onService_timebaseLaw (fun n f t ht => ht.of_service (haltAct_cases n f t)) h

theorem bypassRequest_timebaseLaw {s : State} (h : s.TimebaseLaw) : (bypassRequest s).TimebaseLaw :=
  serve_onService_timebaseLaw (fun n f t ht => ht.of_service (bypassAct_cases n f t)) h

theorem markRequest_timebaseLaw {s : State} (h : s.TimebaseLaw) : (markRequest s).TimebaseLaw :=
  serve_onService_timebaseLaw (fun n f t ht => ht.of_service (markAct_cases n f t)) h

theorem selectRequest_timebaseLaw {s : State} (h : s.TimebaseLaw) : (selectRequest s).TimebaseLaw :=
  serve_onService_timebaseLaw (fun n f t ht => ht.of_service (selectAct_cases n f t)) h

theorem portsRequest_timebaseLaw {s : State} (h : s.TimebaseLaw) : (portsRequest s).TimebaseLaw := by
  refine serve_timebaseLaw (fun f t ht => ?_) h
  rcases portsAct_cases f t with he | ⟨p, limit, h1, h2, he⟩ <;> rw [he]
  · exact ht
  · exact ht.setReceiver p ((ht.receiver p).withErrorLimit h1 h2)

theorem notifyRequest_timebaseLaw {s : State} (h : s.TimebaseLaw) : (notifyRequest s).TimebaseLaw := by
  refine serve_timebaseLaw (fun f t ht => ?_) h
  rw [notifyAct_eq]
  exact ht

/-! ### Store and resets -/

theorem storeRequest_timebaseLaw {s : State} (h : s.TimebaseLaw) (protect : PinLevel) :
    (storeRequest protect s).TimebaseLaw := by
  unfold storeRequest
  split
  · exact h
  · dsimp only
    split
    · exact State.TimebaseLaw.kick (s := State.appendReply _ _ _) h
    · exact h

theorem storeComplete_timebaseLaw {s : State} (h : s.TimebaseLaw) (good : Bool) : (storeComplete good s).TimebaseLaw := by
  unfold storeComplete
  split
  · split
    · exact State.TimebaseLaw.kick (s := State.appendReply _ _ _) h
    · exact h
  · exact h

theorem resetRequest_timebaseLaw {s : State} (h : s.TimebaseLaw) : (resetRequest s).TimebaseLaw := by
  have hrefuse : ∀ frame, (s.dequeued.appendReply frame .ordinary).kick.TimebaseLaw :=
    fun frame => State.TimebaseLaw.kick (s := State.appendReply _ _ _) h
  unfold resetRequest
  split
  · exact h
  dsimp only
  split
  · exact hrefuse _
  split
  · split
    · exact hrefuse _
    · split
      · exact hrefuse _
      · exact State.TimebaseLaw.kick (s := State.appendReply _ _ _) h
  · exact hrefuse _

/-- A part with fresh receivers and a lawful clock at frame 0 keeps the law through the end of its reset. -/
theorem State.timebaseLaw_autostarted {s : State} (cause : ResetCause) (hf : s.frame = 0) (hc : s.clock.Lawful)
    (hr : ∀ p, s.receiver p = Receiver.afterReset (s.receiver p).errorLimit ∧ 1 ≤ (s.receiver p).errorLimit ∧
      (s.receiver p).errorLimit ≤ 4800) : (s.autostarted cause).TimebaseLaw := by
  have hlawful : ∀ p, (s.receiver p).Lawful 0 := by
    intro p
    obtain ⟨heq, h1, h2⟩ := hr p
    rw [heq]
    exact Receiver.lawful_afterReset h1 h2 0
  unfold State.TimebaseLaw
  rw [State.autostarted_frame, State.autostarted_clock, State.autostarted_portA, State.autostarted_portB, hf]
  exact ⟨Nat.zero_le _, hc, hlawful .a, hlawful .b⟩

theorem State.TimebaseLaw.errorLimit {s : State} (h : s.TimebaseLaw) (p : Port) :
    1 ≤ (s.receiver p).errorLimit ∧ (s.receiver p).errorLimit ≤ 4800 := by
  obtain ⟨-, -, -, -, -, -, -, -, hlo, hhi, -⟩ := h.receiver p
  exact ⟨hlo, hhi⟩

theorem resetRequestActs_timebaseLaw {s : State} (h : s.TimebaseLaw) : (resetRequestActs s).TimebaseLaw := by
  by_cases hd : s.operating = true ∧ ∃ option, s.control.resetPhase = .due option
  · obtain ⟨ho, option, hdue⟩ := hd
    obtain ⟨-, hc, -⟩ := id h
    rw [resetRequestActs_of_due ho hdue]
    have hclock : (s.configured option).clock = s.clock := by rw [State.configured_eq]
    refine State.timebaseLaw_autostarted .request rfl (hclock ▸ hc) fun p => ⟨s.configured_receiver option p, ?_⟩
    cases option with
    | keep =>
      cases p
      · exact h.errorLimit .a
      · exact h.errorLimit .b
    | reload => exact s.reloaded_errorLimit p
  · have hsame : resetRequestActs s = s := by
      unfold resetRequestActs
      split
      · next option hdue => exact if_neg fun ho => hd ⟨ho, option, hdue⟩
      all_goals rfl
    rw [hsame]
    exact h

theorem Clock.chosen_lawful (source : ClockSource) : (Clock.chosen source).Lawful := by
  cases source <;> simp [Clock.Lawful, Clock.chosen, ClockSource.frameStart]

theorem State.startCleared_timebaseLaw (s : State) (cause : ResetCause) (rate1 rate0 : PinLevel) (age : Option Rat) :
    ((s.startCleared cause rate1 rate0 age).autostarted cause).TimebaseLaw :=
  State.timebaseLaw_autostarted cause rfl (Clock.chosen_lawful _) fun p =>
    ⟨s.released.configured_receiver .reload p, s.released.reloaded_errorLimit p⟩

theorem powerOn_timebaseLaw {s : State} (h : s.TimebaseLaw) (rate1 rate0 : PinLevel) (age : Option Rat) :
    (powerOn rate1 rate0 age s).TimebaseLaw := by
  by_cases hs : s.pins.supplyGood = true
  · rw [powerOn, if_pos hs]
    exact h
  · by_cases hr : s.pins.resetAsserted = true
    · simp only [powerOn, hs, hr, Bool.false_eq_true, if_false, if_true]
      exact h
    · rw [powerOn_of_dark (Bool.eq_false_iff.mpr hs) (Bool.eq_false_iff.mpr hr)]
      exact s.startCleared_timebaseLaw .power rate1 rate0 age

theorem resetPinRelease_timebaseLaw {s : State} (h : s.TimebaseLaw) (rate1 rate0 : PinLevel) (age : Option Rat) :
    (resetPinRelease rate1 rate0 age s).TimebaseLaw := by
  by_cases hr : s.pins.resetAsserted = true
  · by_cases hs : s.pins.supplyGood = true
    · rw [resetPinRelease_of_held hs hr]
      exact s.startCleared_timebaseLaw .pin rate1 rate0 age
    · simp only [resetPinRelease, hs, hr, Bool.false_eq_true, if_false, if_true]
      exact h
  · rw [resetPinRelease, if_neg hr]
    exact h

theorem State.TimebaseLaw.silenced {s : State} (h : s.TimebaseLaw) : s.silenced.TimebaseLaw := by
  obtain ⟨hf, hc, -, -⟩ := id h
  obtain ⟨ha1, ha2⟩ := h.errorLimit .a
  obtain ⟨hb1, hb2⟩ := h.errorLimit .b
  exact ⟨hf, hc, Receiver.lawful_afterReset ha1 ha2 _, Receiver.lawful_afterReset hb1 hb2 _⟩

/-! ### Every command -/

theorem exec_timebaseLaw (c : Instr) {s : State} (h : s.TimebaseLaw) : ∃ t, exec c s = .next t ∧ t.TimebaseLaw := by
  cases c with
  | outputFrame => exact ⟨_, rfl, outputFrame_timebaseLaw h⟩
  | missingEdge => exact ⟨_, rfl, missingEdge_timebaseLaw h⟩
  | clockToInternal => exact ⟨_, rfl, clockToInternal_timebaseLaw h⟩
  | refclkEdge before since => exact ⟨_, rfl, refclkEdge_timebaseLaw h before since⟩
  | clockToReference => exact ⟨_, rfl, clockToReference_timebaseLaw h⟩
  | searchFramePosition p bits => exact ⟨_, rfl, searchFramePosition_timebaseLaw h p bits⟩
  | portLock p body => exact ⟨_, rfl, portLock_timebaseLaw h p body⟩
  | linkFrameArrival p line => exact ⟨_, rfl, linkFrameArrival_timebaseLaw h p line⟩
  | portLossOfSync p => exact ⟨_, rfl, portLossOfSync_timebaseLaw h p⟩
  | subblockEnd order => exact ⟨_, rfl, subblockEnd_timebaseLaw h order⟩
  | controlFrameComplete => exact ⟨_, rfl, controlFrameComplete_timebaseLaw h⟩
  | lengthFault => exact ⟨_, rfl, lengthFault_timebaseLaw h⟩
  | frameTimeout => exact ⟨_, rfl, frameTimeout_timebaseLaw h⟩
  | unknownKind => exact ⟨_, rfl, unknownKind_timebaseLaw h⟩
  | identify => exact ⟨_, rfl, identifyRequest_timebaseLaw h⟩
  | query protect => exact ⟨_, rfl, queryRequest_timebaseLaw h protect⟩
  | peek => exact ⟨_, rfl, peekRequest_timebaseLaw h⟩
  | map => exact ⟨_, rfl, mapRequest_timebaseLaw h⟩
  | unmap => exact ⟨_, rfl, unmapRequest_timebaseLaw h⟩
  | profile protect => exact ⟨_, rfl, profileRequest_timebaseLaw h protect⟩
  | start => exact ⟨_, rfl, startRequest_timebaseLaw h⟩
  | halt => exact ⟨_, rfl, haltRequest_timebaseLaw h⟩
  | bypass => exact ⟨_, rfl, bypassRequest_timebaseLaw h⟩
  | mark => exact ⟨_, rfl, markRequest_timebaseLaw h⟩
  | select => exact ⟨_, rfl, selectRequest_timebaseLaw h⟩
  | ports => exact ⟨_, rfl, portsRequest_timebaseLaw h⟩
  | notify => exact ⟨_, rfl, notifyRequest_timebaseLaw h⟩
  | store protect => exact ⟨_, rfl, storeRequest_timebaseLaw h protect⟩
  | storeComplete good => exact ⟨_, rfl, storeComplete_timebaseLaw h good⟩
  | reset => exact ⟨_, rfl, resetRequest_timebaseLaw h⟩
  | resetRequestActs => exact ⟨_, rfl, resetRequestActs_timebaseLaw h⟩
  | transmitFrameEnd => exact ⟨_, rfl, transmitFrameEnd_timebaseLaw h⟩
  | powerOn rate1 rate0 age => exact ⟨_, rfl, powerOn_timebaseLaw h rate1 rate0 age⟩
  | resetPinAssert => exact ⟨_, rfl, h.silenced⟩
  | resetPinRelease rate1 rate0 age => exact ⟨_, rfl, resetPinRelease_timebaseLaw h rate1 rate0 age⟩
  | controlByteReceived value stop => exact ⟨_, rfl, controlByteReceived_timebaseLaw h value stop⟩
  | lossOfPower => exact ⟨_, rfl, h.silenced⟩

/-- A law that every command keeps, and that does not read the queue, is kept by every step. -/
theorem step_keeps {P : State → Prop} (hqueue : ∀ (s : State) pending, P s → P { s with pending := pending })
    (hexec : ∀ (c : Instr) (s : State), P s → ∃ t, exec c s = .next t ∧ P t) {s t : State} (h : P s)
    (hstep : step s = .next t) : P t := by
  unfold step at hstep
  split at hstep
  · next c rest _ =>
    obtain ⟨u, hu, hlaw⟩ := hexec c _ (hqueue s rest h)
    rw [hu] at hstep
    cases hstep
    exact hlaw
  · cases hstep
    exact h

/-- Settles O55: `exec_timebaseLaw` for the command at the front of the queue. -/
theorem timebaseLawKept : Obligations.TimebaseLawKept := fun _ _ h hstep =>
  step_keeps (P := State.TimebaseLaw) (fun _ _ hs => hs) (fun c _ hs => exec_timebaseLaw c hs) h hstep

end Sys2Proof.Machine
end

section
/-! PROOF. The bytes of a Map payload (R24, R25): which payloads the format checks accept, and with which refusal they fail. -/

namespace Sys2Proof.Machine

/-! ### Slot bytes -/

theorem slotOf_eq_none {b : Byte} : slotOf b = none ↔ 32 ≤ b.toNat := by
  unfold slotOf
  split
  · next h => exact iff_of_false (by simp) (by omega)
  · next h => exact iff_of_true rfl (by omega)

/-- No slot number is the byte for NONE (R24). -/
theorem byteOf_slot_ne_none (slot : SlotIndex) : byteOf slot.val ≠ 0xFF := by
  intro h
  have hsome := slotOf_byteOf slot
  rw [h, slotOf_eq_none.mpr (by decide)] at hsome
  cases hsome

/-- The byte of a reserve (R24). -/
def reserveByte : Option SlotIndex → Byte
  | some r => byteOf r.val
  | none => 0xFF

/-- The three slot bytes of a channel map (R24). -/
def ChannelMap.raw (ch : ChannelMap) : Byte × Byte × Byte :=
  (byteOf ch.main.val, reserveByte ch.reserve, byteOf ch.output.val)

theorem ChannelMap.bytes_eq (ch : ChannelMap) : ch.bytes = [ch.raw.1, ch.raw.2.1, ch.raw.2.2] := rfl

/-- The refusal of one channel's bytes, as an out of range main, reserve or output number (R25). -/
theorem rangeRefusal_eq (c : Nat) (m r o : Byte) :
    rangeRefusal c (m, r, o) =
      if 32 ≤ m.toNat then some (.range (byteOf c) 1)
      else if r ≠ 0xFF ∧ 32 ≤ r.toNat then some (.range (byteOf c) 2)
      else if 32 ≤ o.toNat then some (.range (byteOf c) 3)
      else none := by
  simp only [rangeRefusal, slotOf_eq_none]

theorem reserveByte_eq_none {reserve : Option SlotIndex} : reserveByte reserve = 0xFF ↔ reserve = none := by
  cases reserve with
  | none => exact iff_of_true rfl rfl
  | some r => exact iff_of_false (byteOf_slot_ne_none r) (by simp)

theorem slotOf_reserveByte {reserve : Option SlotIndex} (h : reserveByte reserve ≠ 0xFF) :
    slotOf (reserveByte reserve) = reserve := by
  cases reserve with
  | none => exact absurd rfl h
  | some r => exact slotOf_byteOf r

theorem ChannelMap.rangeRefusal_raw (ch : ChannelMap) (c : Nat) : rangeRefusal c ch.raw = none := by
  rw [ChannelMap.raw, rangeRefusal, slotOf_byteOf, slotOf_byteOf, if_neg (by simp), if_neg, if_neg (by simp)]
  rintro ⟨hne, hslot⟩
  exact hne (reserveByte_eq_none.mpr ((slotOf_reserveByte hne).symm.trans hslot))

theorem ChannelMap.channelOf_raw (ch : ChannelMap) : channelOf ch.raw = some ch := by
  have hreserve : (if reserveByte ch.reserve = 0xFF then none else slotOf (reserveByte ch.reserve)) = ch.reserve := by
    split
    · next h => exact (reserveByte_eq_none.mp h).symm
    · next h => exact slotOf_reserveByte h
  simp only [ChannelMap.raw, channelOf, slotOf_byteOf]
  exact congrArg (fun reserve => some { ch with reserve }) hreserve

/-- Bytes in range are those of a channel map (R24, R25). -/
theorem exists_raw_of_rangeRefusal {c : Nat} {raw : Byte × Byte × Byte} (h : rangeRefusal c raw = none) :
    ∃ ch : ChannelMap, ch.raw = raw := by
  obtain ⟨m, r, o⟩ := raw
  simp only [rangeRefusal, ite_eq_right_iff, reduceCtorEq, imp_false, ite_eq_iff] at h
  have hm : slotOf m ≠ none := by tauto
  have hr : r = 0xFF ∨ slotOf r ≠ none := by tauto
  have ho : slotOf o ≠ none := by tauto
  obtain ⟨main, hmain⟩ := Option.ne_none_iff_exists'.mp hm
  obtain ⟨output, houtput⟩ := Option.ne_none_iff_exists'.mp ho
  rw [← slotOf_some hmain, ← slotOf_some houtput]
  rcases hr with rfl | hr
  · exact ⟨⟨main, none, output⟩, rfl⟩
  · obtain ⟨reserve, hreserve⟩ := Option.ne_none_iff_exists'.mp hr
    rw [← slotOf_some hreserve]
    exact ⟨⟨main, some reserve, output⟩, rfl⟩

/-! ### The channels of a payload -/

theorem rawChannels_flatMap_bytes (channels : List ChannelMap) :
    rawChannels (channels.flatMap ChannelMap.bytes) = channels.map ChannelMap.raw := by
  induction channels with
  | nil => rfl
  | cons ch channels ih =>
    rw [List.flatMap_cons, ChannelMap.bytes_eq, List.map_cons, ← ih]
    rfl

theorem length_flatMap_bytes (channels : List ChannelMap) :
    (channels.flatMap ChannelMap.bytes).length = 3 * channels.length := by
  induction channels with
  | nil => rfl
  | cons ch channels ih =>
    rw [List.flatMap_cons, List.length_append, ih, List.length_cons, ChannelMap.bytes_eq]
    simp only [List.length_cons, List.length_nil]
    omega

/-- Slot bytes that fill whole channels are the bytes of those channels. -/
theorem exists_channels_of_rawChannels {k : Nat} {slots : List Byte} (hl : slots.length = 3 * k)
    (h : ∀ raw ∈ rawChannels slots, ∃ ch : ChannelMap, ch.raw = raw) :
    ∃ channels : List ChannelMap, channels.length = k ∧ slots = channels.flatMap ChannelMap.bytes := by
  induction k generalizing slots with
  | zero => exact ⟨[], rfl, List.eq_nil_of_length_eq_zero hl⟩
  | succ k ih =>
    match slots, hl with
    | m :: r :: o :: rest, hl =>
      have hrest : rest.length = 3 * k := by
        simp only [List.length_cons] at hl
        omega
      obtain ⟨⟨ch, hch⟩, hrestIn⟩ := List.forall_mem_cons.mp h
      obtain ⟨channels, hlen, hslots⟩ := ih hrest hrestIn
      refine ⟨ch :: channels, congrArg Nat.succ hlen, ?_⟩
      rw [List.flatMap_cons, ChannelMap.bytes_eq, hch, ← hslots]
      rfl

/-- Channel `c` of some slot bytes is made of bytes `3c` to `3c + 2`. -/
theorem rawChannels_getElem? (slots : List Byte) (c : Nat) (m r o : Byte) :
    (rawChannels slots)[c]? = some (m, r, o) ↔
      slots[3 * c]? = some m ∧ slots[3 * c + 1]? = some r ∧ slots[3 * c + 2]? = some o := by
  induction slots using rawChannels.induct generalizing c with
  | case1 m' r' o' rest ih =>
    cases c with
    | zero => simp [rawChannels]
    | succ c => simpa [rawChannels, Nat.mul_succ] using ih c
  | case2 slots hshort =>
    have hnil : rawChannels slots = [] := by
      unfold rawChannels
      split
      · exact absurd rfl (hshort _ _ _ _)
      · rfl
    have hlen : slots.length < 3 := by
      by_contra hge
      match slots, hge with
      | m' :: r' :: o' :: rest, _ => exact hshort m' r' o' rest rfl
      | [], hge => exact hge (by simp)
      | [_], hge => exact hge (by simp)
      | [_, _], hge => exact hge (by simp)
    rw [hnil]
    refine iff_of_false (by simp) fun ⟨_, _, ho⟩ => ?_
    obtain ⟨hlt, -⟩ := List.getElem?_eq_some_iff.mp ho
    omega

/-! ### The first failing element -/

/-- A search gives what the first element gives at which it does not fail. -/
theorem findSome?_eq_of_first {α β : Type} {f : α → Option β} {l : List α} {c : Nat} {a : α} {b : β} (ha : l[c]? = some a)
    (hf : f a = some b) (hbefore : ∀ (j : Nat) (x : α), j < c → l[j]? = some x → f x = none) :
    l.findSome? f = some b := by
  obtain ⟨hc, rfl⟩ := List.getElem?_eq_some_iff.mp ha
  refine List.findSome?_eq_some_iff.mpr ⟨l.take c, l[c], l.drop (c + 1), ?_, hf, fun x hx => ?_⟩
  · rw [← List.drop_eq_getElem_cons hc, List.take_append_drop]
  · obtain ⟨j, hj, hx⟩ := List.mem_iff_getElem.mp hx
    rw [List.length_take] at hj
    refine hbefore j x (by omega) ?_
    rw [← hx, List.getElem_take]
    exact List.getElem?_eq_getElem _

theorem zipIdx_findSome?_eq_of_first {α β : Type} {f : α × Nat → Option β} {l : List α} {c : Nat} {a : α} {b : β}
    (ha : l[c]? = some a) (hf : f (a, c) = some b)
    (hbefore : ∀ (j : Nat) (x : α), j < c → l[j]? = some x → f (x, j) = none) : l.zipIdx.findSome? f = some b := by
  refine findSome?_eq_of_first (c := c) (by simp [ha]) hf fun j x hj hx => ?_
  rw [List.getElem?_zipIdx] at hx
  obtain ⟨y, hy, rfl⟩ := Option.map_eq_some_iff.mp hx
  simpa using hbefore j y hj hy

/-! ### Checks 2 and 3 (R25) -/

theorem layoutOfCode_eq_some {code : Byte} {layout : Layout} : layoutOfCode code = some layout ↔ code = layout.code := by
  refine ⟨fun h => ?_, fun h => h ▸ layoutOfCode_code layout⟩
  unfold layoutOfCode at h
  split at h
  · next hc => cases h; exact hc
  split at h
  · next hc => cases h; exact hc
  split at h
  · next hc => cases h; exact hc
  · cases h

theorem Layout.channels_pos (layout : Layout) : 0 < layout.channels := by
  cases layout <;> decide

theorem Layout.channels_le (layout : Layout) : layout.channels ≤ 6 := by
  cases layout <;> decide

/-- The channels agree on having a reserve: every one has it or none has (R25). -/
def ReserveAgrees (channels : List ChannelMap) : Prop :=
  ∀ a ∈ channels, ∀ b ∈ channels, a.reserve.isSome = b.reserve.isSome

theorem reserveRefusal_eq_none {channels : List ChannelMap} :
    reserveRefusal channels = none ↔ ReserveAgrees channels := by
  cases channels with
  | nil => exact iff_of_true rfl fun a ha => absurd ha List.not_mem_nil
  | cons first channels =>
    simp only [reserveRefusal, List.head?_cons, List.findSome?_eq_none_iff]
    constructor
    · intro h
      have hfirst : ∀ a ∈ first :: channels, a.reserve.isSome = first.reserve.isSome := by
        intro a ha
        obtain ⟨c, hc⟩ := List.mem_iff_getElem?.mp ha
        have := h (a, c) (List.mk_mem_zipIdx_iff_getElem?.mpr hc)
        by_contra hne
        simp [hne] at this
      exact fun a ha b hb => (hfirst a ha).trans (hfirst b hb).symm
    · rintro h ⟨a, c⟩ hac
      have ha : a ∈ first :: channels := List.mem_of_getElem? (List.mk_mem_zipIdx_iff_getElem?.mp hac)
      exact if_pos (h a ha first List.mem_cons_self)

/-- The refusal of the first channel whose reserve does not go with channel 0's (R25). -/
theorem reserveRefusal_of_first {channels : List ChannelMap} {first ch : ChannelMap} {c : Nat}
    (hfirst : channels.head? = some first) (hch : channels[c]? = some ch)
    (hne : ch.reserve.isSome ≠ first.reserve.isSome)
    (hbefore : ∀ (j : Nat) (x : ChannelMap), j < c → channels[j]? = some x →
      x.reserve.isSome = first.reserve.isSome) :
    reserveRefusal channels = some (.range (byteOf c) 2) := by
  simp only [reserveRefusal, hfirst]
  exact zipIdx_findSome?_eq_of_first hch (if_neg hne) fun j x hj hx => if_pos (hbefore j x hj hx)

theorem parseMap_of_code {code : Byte} (slots : List Byte) (h : layoutOfCode code = none) :
    parseMap (code :: slots) = .error (.range 0xFF 0) := by
  simp [parseMap, h]

theorem parseMap_of_length {code : Byte} {slots : List Byte} {layout : Layout} (h : layoutOfCode code = some layout)
    (hl : slots.length ≠ 3 * layout.channels) : parseMap (code :: slots) = .error .length := by
  simp [parseMap, h, hl]

theorem parseMap_of_range {code : Byte} {slots : List Byte} {layout : Layout} {refusal : MapRefusal}
    (h : layoutOfCode code = some layout) (hl : slots.length = 3 * layout.channels)
    (hr : ((rawChannels slots).zipIdx.findSome? fun (raw, c) => rangeRefusal c raw) = some refusal) :
    parseMap (code :: slots) = .error refusal := by
  simp [parseMap, h, hl, hr]

/-- The payload of a map of the right length fails no format check but that of its reserves. -/
theorem parseMap_mapPayload {layout : Layout} {channels : List ChannelMap} (hl : channels.length = layout.channels) :
    parseMap (mapPayload layout channels) = (reserveRefusal channels).elim (.ok (layout, channels)) .error := by
  have hslots : (channels.flatMap ChannelMap.bytes).length = 3 * layout.channels := by rw [length_flatMap_bytes, hl]
  have hrange : ((channels.map ChannelMap.raw).zipIdx.findSome? fun (raw, c) => rangeRefusal c raw) = none := by
    rw [List.findSome?_eq_none_iff]
    rintro ⟨raw, c⟩ hraw
    obtain ⟨ch, -, rfl⟩ := List.mem_map.mp (List.mem_of_getElem? (List.mk_mem_zipIdx_iff_getElem?.mp hraw))
    exact ch.rangeRefusal_raw c
  have hchannels : (channels.map ChannelMap.raw).filterMap channelOf = channels := by
    rw [List.filterMap_map]
    exact (List.filterMap_congr fun ch _ => ch.channelOf_raw).trans List.filterMap_some
  cases hr : reserveRefusal channels <;>
    simp only [mapPayload, parseMap, layoutOfCode_code, hslots, ne_eq, not_true_eq_false, if_false,
      rawChannels_flatMap_bytes, hrange, hchannels, hr, Option.elim]

/-- The format checks accept exactly the payloads of the maps with a channel for each of the layout and a reserve for all or
none (R24, R25). -/
theorem parseMap_eq_ok {payload : List Byte} {layout : Layout} {channels : List ChannelMap} :
    parseMap payload = .ok (layout, channels) ↔
      payload = mapPayload layout channels ∧ channels.length = layout.channels ∧ ReserveAgrees channels := by
  constructor
  · intro h
    cases payload with
    | nil => cases h
    | cons code slots =>
      cases hcode : layoutOfCode code with
      | none => rw [parseMap_of_code slots hcode] at h; cases h
      | some layout' =>
        by_cases hl : slots.length = 3 * layout'.channels
        case neg => rw [parseMap_of_length hcode hl] at h; cases h
        cases hr : (rawChannels slots).zipIdx.findSome? fun (raw, c) => rangeRefusal c raw with
        | some refusal => rw [parseMap_of_range hcode hl hr] at h; cases h
        | none =>
          have hraw : ∀ raw ∈ rawChannels slots, ∃ ch : ChannelMap, ch.raw = raw := by
            intro raw hmem
            obtain ⟨c, hc⟩ := List.mem_iff_getElem?.mp hmem
            exact exists_raw_of_rangeRefusal
              (List.findSome?_eq_none_iff.mp hr (raw, c) (List.mk_mem_zipIdx_iff_getElem?.mpr hc))
          obtain ⟨channels', hlen, rfl⟩ := exists_channels_of_rawChannels hl hraw
          rw [layoutOfCode_eq_some.mp hcode] at h ⊢
          change parseMap (mapPayload layout' channels') = _ at h
          rw [parseMap_mapPayload hlen] at h
          cases hr : reserveRefusal channels' with
          | some refusal => rw [hr] at h; cases h
          | none =>
            rw [hr] at h
            cases h
            exact ⟨rfl, hlen, reserveRefusal_eq_none.mp hr⟩
  · rintro ⟨rfl, hlen, hagree⟩
    rw [parseMap_mapPayload hlen, reserveRefusal_eq_none.mpr hagree, Option.elim]

end Sys2Proof.Machine
end

section
/-! PROOF. The slots that a map names (R20, R26, R27), and the checks of a Map payload: O31. -/

namespace Sys2Proof.Machine

/-! ### The fields of a map -/

theorem mem_channelFields {ch : ChannelMap} {c : Nat} {f : MapField} :
    f ∈ channelFields (ch, c) ↔ f.channel = c ∧ ch.slotIn f.table = some f.slot := by
  obtain ⟨main, reserve, output⟩ := ch
  obtain ⟨channel, table, slot⟩ := f
  cases reserve <;> cases table <;> simp [channelFields, ChannelMap.slotIn, eq_comm]

/-- The fields of a map are the slots that its channels name. -/
theorem mem_mapFields {channels : List ChannelMap} {f : MapField} :
    f ∈ mapFields channels ↔ ∃ ch, channels[f.channel]? = some ch ∧ ch.slotIn f.table = some f.slot := by
  rw [mapFields, List.mem_flatMap]
  constructor
  · rintro ⟨⟨ch, c⟩, hc, hf⟩
    obtain ⟨rfl, hslot⟩ := mem_channelFields.mp hf
    exact ⟨ch, List.mk_mem_zipIdx_iff_getElem?.mp hc, hslot⟩
  · rintro ⟨ch, hch, hslot⟩
    exact ⟨(ch, f.channel), List.mk_mem_zipIdx_iff_getElem?.mpr hch, mem_channelFields.mpr ⟨rfl, hslot⟩⟩

theorem MapField.channel_lt {channels : List ChannelMap} {f : MapField} (hf : f ∈ mapFields channels) :
    f.channel < channels.length := by
  obtain ⟨ch, hch, -⟩ := mem_mapFields.mp hf
  exact (List.getElem?_eq_some_iff.mp hch).1

/-- The order in which the fields of a map are examined: channel by channel, and no table twice within one (R26, R27). -/
def MapField.Precedes (e f : MapField) : Prop :=
  e.channel ≤ f.channel ∧ (e.channel = f.channel → e.table ≠ f.table)

theorem channelFields_pairwise (ch : ChannelMap) (c : Nat) : (channelFields (ch, c)).Pairwise MapField.Precedes := by
  obtain ⟨main, reserve, output⟩ := ch
  cases reserve <;> simp [channelFields, MapField.Precedes]

theorem mapFields_pairwise (channels : List ChannelMap) : (mapFields channels).Pairwise MapField.Precedes := by
  rw [mapFields, List.pairwise_flatMap]
  refine ⟨fun ⟨ch, c⟩ _ => channelFields_pairwise ch c, ?_⟩
  have hlt : channels.zipIdx.Pairwise fun a b => a.2 < b.2 := by
    rw [← List.pairwise_map (f := Prod.snd) (R := (· < ·)), List.zipIdx_map_snd]
    exact List.pairwise_lt_range'
  refine hlt.imp ?_
  rintro ⟨a, i⟩ ⟨b, j⟩ hij e he f hf
  obtain ⟨rfl, -⟩ := mem_channelFields.mp he
  obtain ⟨rfl, -⟩ := mem_channelFields.mp hf
  exact ⟨hij.le, fun heq => absurd heq hij.ne⟩

/-! ### Checks 4 and 5 (R26, R27) -/

/-- No two channels name one slot of a table (R26). -/
theorem repeatRefusal_eq_none {n : ServiceIndex} {channels : List ChannelMap} :
    repeatRefusal n channels = none ↔
      ∀ (t : TableId) (slot : SlotIndex) (i j : Nat) (a b : ChannelMap), channels[i]? = some a → channels[j]? = some b →
        a.slotIn t = some slot → b.slotIn t = some slot → i = j := by
  simp only [repeatRefusal, List.findSome?_eq_none_iff, Option.map_eq_none_iff, List.find?_eq_none, Bool.and_eq_true,
    decide_eq_true_eq, beq_iff_eq]
  constructor
  · intro h t slot i j a b ha hb hsa hsb
    have hi : MapField.mk i t slot ∈ mapFields channels := mem_mapFields.mpr ⟨a, ha, hsa⟩
    have hj : MapField.mk j t slot ∈ mapFields channels := mem_mapFields.mpr ⟨b, hb, hsb⟩
    rcases Nat.lt_trichotomy i j with hlt | heq | hgt
    · exact absurd ⟨⟨hlt, rfl⟩, rfl⟩ (h _ hj _ hi)
    · exact heq
    · exact absurd ⟨⟨hgt, rfl⟩, rfl⟩ (h _ hi _ hj)
  · rintro h f hf e he ⟨⟨hlt, htable⟩, hslot⟩
    obtain ⟨a, ha, hsa⟩ := mem_mapFields.mp he
    obtain ⟨b, hb, hsb⟩ := mem_mapFields.mp hf
    rw [htable, hslot] at hsa
    exact absurd (h _ _ _ _ _ _ ha hb hsa hsb) hlt.ne

/-- The refusal of the first slot that an earlier channel names (R26). -/
theorem repeatRefusal_of_first {n : ServiceIndex} {channels : List ChannelMap} {before after : List MapField}
    {earlier field : MapField} (hfields : mapFields channels = before ++ field :: after) (he : earlier ∈ before)
    (htable : earlier.table = field.table) (hslot : earlier.slot = field.slot)
    (hbefore : ∀ x ∈ before, ∀ y ∈ before, x.table = y.table → x.slot = y.slot → x = y) :
    repeatRefusal n channels =
      some (.conflict field.table field.slot { service := n, channel := Fin.ofNat 6 earlier.channel }) := by
  have hord := mapFields_pairwise channels
  rw [hfields, List.pairwise_append, List.pairwise_cons] at hord
  obtain ⟨-, ⟨hafter, -⟩, hacross⟩ := hord
  -- A field of an earlier channel than one of these stands before it.
  have hin : ∀ x ∈ mapFields channels, x.channel < field.channel → x ∈ before := by
    intro x hx hlt
    rw [hfields, List.mem_append, List.mem_cons] at hx
    rcases hx with hx | rfl | hx
    · exact hx
    · exact absurd hlt (lt_irrefl _)
    · exact absurd hlt (hafter x hx).1.not_gt
  have hearlier : earlier.channel < field.channel := by
    obtain ⟨hle, hne⟩ := hacross earlier he field List.mem_cons_self
    exact lt_of_le_of_ne hle fun heq => hne heq htable
  refine List.findSome?_eq_some_iff.mpr ⟨before, field, after, hfields, ?_, fun f hf => ?_⟩
  · obtain ⟨e, hfind⟩ : ∃ e, (mapFields channels).find?
        (fun e => e.channel < field.channel && e.table == field.table && e.slot == field.slot) = some e := by
      refine Option.isSome_iff_exists.mp (List.find?_isSome.mpr ⟨earlier, ?_, by simp [hearlier, htable, hslot]⟩)
      rw [hfields]
      exact List.mem_append_left _ he
    have hpred := List.find?_some hfind
    simp only [Bool.and_eq_true, decide_eq_true_eq, beq_iff_eq] at hpred
    obtain ⟨⟨hlt, het⟩, hes⟩ := hpred
    have hsame : e = earlier :=
      hbefore e (hin e (List.mem_of_find?_eq_some hfind) hlt) earlier he (het.trans htable.symm) (hes.trans hslot.symm)
    rw [hfind, hsame]
    rfl
  · rw [Option.map_eq_none_iff, List.find?_eq_none]
    intro e hmem hpred
    simp only [Bool.and_eq_true, decide_eq_true_eq, beq_iff_eq] at hpred
    obtain ⟨⟨hlt, het⟩, hes⟩ := hpred
    have hle : f.channel ≤ field.channel := (hacross f hf field List.mem_cons_self).1
    rw [hbefore e (hin e hmem (by omega)) f hf het hes] at hlt
    exact lt_irrefl _ hlt

theorem ownerRefusal_eq_none {owner : TableId → SlotIndex → Option Owner} {n : ServiceIndex}
    {channels : List ChannelMap} :
    ownerRefusal owner n channels = none ↔
      ∀ f ∈ mapFields channels, ∀ o, owner f.table f.slot = some o → o.service = n := by
  rw [ownerRefusal, List.findSome?_eq_none_iff]
  refine forall₂_congr fun f _ => ?_
  cases owner f.table f.slot with
  | none => simp
  | some o => by_cases h : o.service = n <;> simp [h]

/-- The refusal of the first slot that another service owns (R27). -/
theorem ownerRefusal_of_first {owner : TableId → SlotIndex → Option Owner} {n : ServiceIndex}
    {channels : List ChannelMap} {before after : List MapField} {field : MapField} {o : Owner}
    (hfields : mapFields channels = before ++ field :: after)
    (hbefore : ∀ e ∈ before, ∀ p, owner e.table e.slot = some p → p.service = n)
    (howner : owner field.table field.slot = some o) (hne : o.service ≠ n) :
    ownerRefusal owner n channels = some (.conflict field.table field.slot o) := by
  refine List.findSome?_eq_some_iff.mpr ⟨before, field, after, hfields, ?_, fun e he => ?_⟩
  · simp [howner, hne]
  · cases h : owner e.table e.slot with
    | none => rfl
    | some p => exact if_pos (hbefore e he p h)

/-- A map fits when its format is right and the two checks of its slots find nothing (R25 to R27). -/
theorem mapFits_iff {owner : TableId → SlotIndex → Option Owner} {n : ServiceIndex} {layout : Layout}
    {channels : List ChannelMap} :
    MapFits owner n layout channels ↔
      channels.length = layout.channels ∧ ReserveAgrees channels ∧ repeatRefusal n channels = none ∧
        ownerRefusal owner n channels = none := by
  rw [repeatRefusal_eq_none, ownerRefusal_eq_none]
  refine and_congr_right fun _ => and_congr_right fun _ => and_congr_right fun _ => ⟨fun h f hf o ho => ?_,
    fun h t slot ch o hch hslot ho => ?_⟩
  · obtain ⟨ch, hch, hslot⟩ := mem_mapFields.mp hf
    exact h _ _ ch o (List.mem_of_getElem? hch) hslot ho
  · obtain ⟨c, hc⟩ := List.mem_iff_getElem?.mp hch
    exact h ⟨c, t, slot⟩ (mem_mapFields.mpr ⟨ch, hc, hslot⟩) o ho

/-! ### All checks in order (R24 to R27) -/

section
variable {owner : TableId → SlotIndex → Option Owner} {n : ServiceIndex} {payload : List Byte}

theorem checkMap_of_parse {refusal : MapRefusal} (h : parseMap payload = .error refusal) :
    checkMap owner n payload = .error refusal := by
  simp [checkMap, h]

variable {layout : Layout} {channels : List ChannelMap}

theorem checkMap_of_repeat {refusal : MapRefusal} (h : parseMap payload = .ok (layout, channels))
    (hr : repeatRefusal n channels = some refusal) : checkMap owner n payload = .error refusal := by
  simp [checkMap, h, hr]

theorem checkMap_of_owner {refusal : MapRefusal} (h : parseMap payload = .ok (layout, channels))
    (hr : repeatRefusal n channels = none) (ho : ownerRefusal owner n channels = some refusal) :
    checkMap owner n payload = .error refusal := by
  simp [checkMap, h, hr, ho]

theorem checkMap_eq_ok :
    checkMap owner n payload = .ok (layout, channels) ↔
      parseMap payload = .ok (layout, channels) ∧ repeatRefusal n channels = none ∧
        ownerRefusal owner n channels = none := by
  constructor
  · intro h
    unfold checkMap at h
    split at h
    · cases h
    split at h
    · cases h
    split at h
    · cases h
    · next hp _ hr _ ho =>
      cases h
      exact ⟨hp, hr, ho⟩
  · rintro ⟨hp, hr, ho⟩
    simp [checkMap, hp, hr, ho]

end

/-- Settles O31: the format by `parseMap_eq_ok`, the slots by `mapFits_iff`. -/
theorem mapChecksAcceptExactly : Obligations.MapChecksAcceptExactly := by
  intro owner n payload layout channels
  rw [checkMap_eq_ok, parseMap_eq_ok, mapFits_iff]
  tauto

end Sys2Proof.Machine
end

section
/-! PROOF. Owners under a new map or none (R28, R31), and the law of slot ownership (R20) that they keep. -/

namespace Sys2Proof.Machine

/-! ### Owners (R28, R31) -/

theorem SlotTable.assigned_get_of_not_named (t : SlotTable) (n : ServiceIndex) {fields : List MapField}
    {slot : SlotIndex} (h : ∀ f ∈ fields, f.slot ≠ slot) : (SlotTable.assigned t n fields).get slot = t.get slot := by
  rcases SlotTable.assigned_get t n fields slot with heq | ⟨⟨f, hf, hslot⟩, -⟩
  · exact heq
  · exact absurd hslot (h f hf)

/-- A slot that fields of one channel name, and no others, becomes that channel's. -/
theorem SlotTable.assigned_get_of_named (t : SlotTable) (n : ServiceIndex) {fields : List MapField} {slot : SlotIndex}
    {c : Nat} (hnamed : ∃ f ∈ fields, f.slot = slot) (hchannel : ∀ f ∈ fields, f.slot = slot → f.channel = c) :
    (SlotTable.assigned t n fields).get slot = some { service := n, channel := Fin.ofNat 6 c } := by
  induction fields generalizing t with
  | nil =>
    obtain ⟨f, hf, -⟩ := hnamed
    exact absurd hf List.not_mem_nil
  | cons g fields ih =>
    have hstep : SlotTable.assigned t n (g :: fields) =
        SlotTable.assigned (t.set g.slot (some { service := n, channel := Fin.ofNat 6 g.channel })) n fields := rfl
    obtain ⟨hg, hfields⟩ := List.forall_mem_cons.mp hchannel
    rw [hstep]
    by_cases hlater : ∃ f ∈ fields, f.slot = slot
    · exact ih _ hlater hfields
    · have hnone : ∀ f ∈ fields, f.slot ≠ slot := fun f hf he => hlater ⟨f, hf, he⟩
      have hslot : g.slot = slot := by
        obtain ⟨f, hf, he⟩ := hnamed
        rcases List.mem_cons.mp hf with rfl | hmem
        · exact he
        · exact absurd he (hnone f hmem)
      rw [SlotTable.assigned_get_of_not_named _ n hnone, hg hslot, ← hslot]
      exact Vector.getElem_set_self g.slot.isLt

section
variable {s : State} {n : ServiceIndex} {channels : List ChannelMap} {t : TableId} {slot : SlotIndex}

theorem State.remapped_owner (s : State) (n : ServiceIndex) (channels : List ChannelMap) (t : TableId)
    (slot : SlotIndex) :
    (s.remapped n channels).owner t slot =
      (SlotTable.assigned (SlotTable.freed (s.table t) n) n ((mapFields channels).filter fun f => f.table == t)).get
        slot := by
  rw [State.owner, State.remapped_table, SlotTable.remapped]

/-- A slot that the map names becomes its channel's. -/
theorem State.remapped_owner_of_named (hrepeat : repeatRefusal n channels = none) {c : Nat} {ch : ChannelMap}
    (hch : channels[c]? = some ch) (hslot : ch.slotIn t = some slot) :
    (s.remapped n channels).owner t slot = some { service := n, channel := Fin.ofNat 6 c } := by
  rw [State.remapped_owner]
  refine SlotTable.assigned_get_of_named _ n ⟨⟨c, t, slot⟩, ?_, rfl⟩ fun f hf he => ?_
  · exact List.mem_filter.mpr ⟨mem_mapFields.mpr ⟨ch, hch, hslot⟩, beq_self_eq_true t⟩
  · obtain ⟨hf, htable⟩ := List.mem_filter.mp hf
    obtain ⟨a, ha, hsa⟩ := mem_mapFields.mp hf
    rw [he, eq_of_beq htable] at hsa
    exact repeatRefusal_eq_none.mp hrepeat t slot _ _ a ch ha hch hsa hslot

/-- Any other slot stays as it is, unless it was the service's: then it becomes FREE. -/
theorem State.remapped_owner_of_not_named (h : ∀ ch ∈ channels, ch.slotIn t ≠ some slot) :
    (s.remapped n channels).owner t slot = (s.owner t slot).filter fun o => decide (o.service ≠ n) := by
  rw [State.remapped_owner, SlotTable.assigned_get_of_not_named, SlotTable.freed_get, State.owner]
  intro f hf he
  obtain ⟨hf, htable⟩ := List.mem_filter.mp hf
  obtain ⟨ch, hch, hslot⟩ := mem_mapFields.mp hf
  rw [he, eq_of_beq htable] at hslot
  exact h ch (List.mem_of_getElem? hch) hslot

theorem filter_service_ne (x : Option Owner) (n : ServiceIndex) :
    (x.filter fun o => decide (o.service ≠ n)) = if x.map (fun o => o.service) = some n then none else x := by
  cases x with
  | none => rfl
  | some o => by_cases h : o.service = n <;> simp [Option.filter, h]

/-! ### The law of slot ownership (R20) -/

/-- Every slot is owned by the channel whose map names it, and by no other (R20). -/
def State.OwnersNamed (s : State) : Prop :=
  ∀ t slot o, s.owner t slot = some o ↔ s.Names t o.service o.channel.val slot

/-- A service has a map exactly when it is not VACANT, with a channel for each of its layout and a reserve for all or none
(R20). -/
def Service.MapLaw (sv : Service) : Prop :=
  (sv.lifecycle = .vacant ↔ sv.layout = none) ∧ sv.map.length = sv.channels ∧
    ∀ ch ∈ sv.map, ch.reserve.isSome = sv.reserveMapped

theorem State.slotLaw_iff {s : State} : s.SlotLaw ↔ s.OwnersNamed ∧ ∀ n, (s.service n).MapLaw := Iff.rfl

/-- A new map that repeats no slot and takes none of another service keeps the owners as named. -/
theorem State.OwnersNamed.remapped (h : s.OwnersNamed) (hlength : channels.length ≤ 6)
    (hrepeat : repeatRefusal n channels = none) (howner : ownerRefusal s.owner n channels = none) {sv : Service}
    (hmap : sv.map = channels) : ((s.remapped n channels).setService n sv).OwnersNamed := by
  intro t slot o
  have hsame : ∀ c, ((s.remapped n channels).setService n sv).Names t n c slot ↔
      ∃ ch, channels[c]? = some ch ∧ ch.slotIn t = some slot := by
    intro c
    rw [State.Names, State.service_setService_same, hmap]
  have hother : ∀ m c, m ≠ n → (((s.remapped n channels).setService n sv).Names t m c slot ↔ s.Names t m c slot) := by
    intro m c hm
    rw [State.Names, State.service_setService_other _ _ hm, State.remapped_service, State.Names]
  rw [State.setService_owner]
  by_cases hnamed : ∃ (c : Nat) (ch : ChannelMap), channels[c]? = some ch ∧ ch.slotIn t = some slot
  · obtain ⟨c, ch, hch, hslot⟩ := hnamed
    have hc : c < 6 := by
      obtain ⟨hlt, -⟩ := List.getElem?_eq_some_iff.mp hch
      omega
    have hmod : (Fin.ofNat 6 c).val = c := Nat.mod_eq_of_lt hc
    rw [State.remapped_owner_of_named hrepeat hch hslot]
    constructor
    · intro ho
      cases ho
      rw [hmod]
      exact (hsame c).mpr ⟨ch, hch, hslot⟩
    · intro ho
      obtain ⟨m, c'⟩ := o
      by_cases hm : m = n
      · subst hm
        obtain ⟨ch', hch', hslot'⟩ := (hsame _).mp ho
        have hcc : c'.val = c := repeatRefusal_eq_none.mp hrepeat t slot _ _ ch' ch hch' hch hslot' hslot
        rw [Option.some.injEq, Owner.mk.injEq]
        exact ⟨rfl, Fin.ext (hmod.trans hcc.symm)⟩
      · have hold := (h t slot ⟨m, c'⟩).mpr ((hother m _ hm).mp ho)
        exact absurd (ownerRefusal_eq_none.mp howner ⟨c, t, slot⟩ (mem_mapFields.mpr ⟨ch, hch, hslot⟩) _ hold) hm
  · have hnot : ∀ ch ∈ channels, ch.slotIn t ≠ some slot := by
      intro ch hch hslot
      obtain ⟨c, hc⟩ := List.mem_iff_getElem?.mp hch
      exact hnamed ⟨c, ch, hc, hslot⟩
    rw [State.remapped_owner_of_not_named hnot, Option.filter_eq_some_iff, decide_eq_true_eq]
    by_cases hm : o.service = n
    · refine iff_of_false (fun ho => ho.2 hm) fun ho => hnamed ?_
      rw [hm] at ho
      exact ⟨_, (hsame _).mp ho⟩
    · rw [hother _ _ hm, ← h t slot o]
      exact and_iff_left hm

end

theorem reserveOf_eq {channels : List ChannelMap} (h : ReserveAgrees channels) {ch : ChannelMap} (hch : ch ∈ channels) :
    ch.reserve.isSome = reserveOf channels := by
  rw [Bool.eq_iff_iff, reserveOf, List.all_eq_true]
  exact ⟨fun hs a ha => (h a ha ch hch).trans hs, fun hall => hall ch hch⟩

theorem Service.mapped_mapLaw (sv : Service) {layout : Layout} {channels : List ChannelMap}
    (hlength : channels.length = layout.channels) (hagree : ReserveAgrees channels) :
    (sv.mapped layout channels).MapLaw :=
  ⟨iff_of_false (by simp [Service.mapped]) (by simp [Service.mapped]), hlength, fun _ hch => reserveOf_eq hagree hch⟩

theorem Service.unmapped_mapLaw (sv : Service) : sv.unmapped.MapLaw :=
  ⟨iff_of_true rfl rfl, rfl, fun _ hch => absurd hch List.not_mem_nil⟩

section
variable {s : State} {n : ServiceIndex}

/-- New slots and a lawful record for one service keep the law of every record. -/
theorem State.mapLaw_remapped (h : ∀ m, (s.service m).MapLaw) (channels : List ChannelMap) {sv : Service}
    (hsv : sv.MapLaw) (m : ServiceIndex) : (((s.remapped n channels).setService n sv).service m).MapLaw := by
  rw [State.service_setService, State.remapped_service]
  split
  · exact hsv
  · exact h m

/-- A map that fits keeps the law of slot ownership (R20, R28). -/
theorem State.SlotLaw.mapService (h : s.SlotLaw) {layout : Layout} {channels : List ChannelMap}
    (hfits : MapFits s.owner n layout channels) : (s.mapService n layout channels).SlotLaw := by
  obtain ⟨howners, hmaps⟩ := State.slotLaw_iff.mp h
  obtain ⟨hlength, hagree, hrepeat, howner⟩ := mapFits_iff.mp hfits
  exact ⟨howners.remapped (hlength ▸ layout.channels_le) hrepeat howner (sv := (s.service n).mapped layout channels) rfl,
    State.mapLaw_remapped hmaps channels ((s.service n).mapped_mapLaw hlength hagree)⟩

/-- So does an Unmap (R20, R31). -/
theorem State.SlotLaw.unmapService (h : s.SlotLaw) : (s.unmapService n).SlotLaw := by
  obtain ⟨howners, hmaps⟩ := State.slotLaw_iff.mp h
  have hrepeat : repeatRefusal n [] = none := rfl
  have howner : ownerRefusal s.owner n [] = none := rfl
  exact ⟨howners.remapped (Nat.zero_le _) hrepeat howner (sv := (s.service n).unmapped) rfl,
    State.mapLaw_remapped hmaps [] (s.service n).unmapped_mapLaw⟩

end

end Sys2Proof.Machine
end

section
/-! PROOF. MAP and UNMAP (R24 to R32): O32, O33 and O34. -/

namespace Sys2Proof.Machine

/-! ### Units (9.2) -/

section
variable {act : ServiceIndex → ControlFrame → State → State × Answer} {f : ControlFrame}

theorem onService_of_unit {n : ServiceIndex} (h : f.unit = BitVec.ofNat 8 n.val) (s : State) :
    onService act f s = act n f s := by
  rw [onService, serviceOf_eq_some.mpr h]

theorem onService_of_no_service (h : ∀ n : ServiceIndex, f.unit ≠ BitVec.ofNat 8 n.val) (s : State) :
    onService act f s = (s, Answer.plain .unit) := by
  rw [onService, serviceOf_eq_none.mpr h]

end

/-! ### The rules of Map and Unmap -/

section
variable {n : ServiceIndex} {f : ControlFrame} {s : State}

theorem mapAct_of_running (h : (s.service n).lifecycle.running = true) :
    mapAct n f s = (s, { status := .state, detail := [(s.service n).lifecycle.code] }) :=
  if_pos h

theorem mapAct_of_refusal {refusal : MapRefusal} (h : (s.service n).lifecycle.running = false)
    (hc : checkMap s.owner n f.payload = .error refusal) : mapAct n f s = (s, mapRefused f refusal) := by
  simp [mapAct, h, hc]

theorem mapAct_of_fits {layout : Layout} {channels : List ChannelMap} (h : (s.service n).lifecycle.running = false)
    (hc : checkMap s.owner n f.payload = .ok (layout, channels)) :
    mapAct n f s =
      (s.mapService n layout channels, Answer.ok [byteOf (costOf layout (reserveOf channels))]) := by
  simp [mapAct, h, hc]

theorem unmapAct_of_running (h : (s.service n).lifecycle.running = true) :
    unmapAct n f s = (s, { status := .state, detail := [(s.service n).lifecycle.code] }) :=
  if_pos h

theorem unmapAct_of_length (h : (s.service n).lifecycle.running = false) (hp : f.payload ≠ []) :
    unmapAct n f s = (s, Answer.length f) := by
  simp [unmapAct, h, hp]

theorem unmapAct_of_vacant (h : (s.service n).lifecycle = .vacant) (hp : f.payload = []) :
    unmapAct n f s = (s, Answer.ok []) := by
  simp [unmapAct, h, hp, Lifecycle.running]

theorem unmapAct_of_idle (h : (s.service n).lifecycle = .idle) (hp : f.payload = []) :
    unmapAct n f s = (s.unmapService n, Answer.ok []) := by
  simp [unmapAct, h, hp, Lifecycle.running]

end

/-! ### Unmap -/

theorem unmapRequest_answered {s t : State} {f : ControlFrame} {rest : List ControlFrame} {a : Answer}
    (h : Serving s 0x11 f rest) (hact : onService unmapAct f s.dequeued = (t.dequeued, a)) (hc : t.control = s.control)
    (ho : t.operating = s.operating) :
    exec .unmap s =
      .next (t.answered rest { kind := 0x91, tag := f.tag, unit := f.unit, payload := a.status.code :: a.detail }
        .ordinary) :=
  congrArg Host.Outcome.next (serve_answered h hact hc ho)

theorem State.unmapService_owner (s : State) (n : ServiceIndex) (t : TableId) (slot : SlotIndex) :
    (s.unmapService n).owner t slot =
      if (s.owner t slot).map (fun o => o.service) = some n then none else s.owner t slot := by
  rw [State.unmapService, State.setService_owner,
    State.remapped_owner_of_not_named fun ch hch => absurd hch List.not_mem_nil, filter_service_ne]

/-- New slots and a new record of one service touch the slot tables and the services alone. -/
theorem State.setService_remapped_eq (s : State) (n : ServiceIndex) (channels : List ChannelMap) (sv : Service) :
    (s.remapped n channels).setService n sv =
      { s with
        tableA := ((s.remapped n channels).setService n sv).tableA
        tableB := ((s.remapped n channels).setService n sv).tableB
        tableOut := ((s.remapped n channels).setService n sv).tableOut
        services := s.services.set n sv } := rfl

theorem State.unmapService_control (s : State) (n : ServiceIndex) : (s.unmapService n).control = s.control := by
  rw [State.unmapService, State.setService_control, State.remapped_control]

theorem State.unmapService_operating (s : State) (n : ServiceIndex) : (s.unmapService n).operating = s.operating := by
  simp [State.unmapService, State.operating]

theorem State.setService_remapped_dequeued (s : State) (n : ServiceIndex) (channels : List ChannelMap) (sv : Service) :
    (s.dequeued.remapped n channels).setService n sv = ((s.remapped n channels).setService n sv).dequeued := rfl

theorem State.dequeued_unmapService (s : State) (n : ServiceIndex) :
    s.dequeued.unmapService n = (s.unmapService n).dequeued :=
  State.setService_remapped_dequeued s n [] _

namespace Settled

/-- Settles O34: each clause is one branch of `unmapAct`, served. -/
theorem unmapRequest : Obligations.UnmapRequest := by
  intro s f rest h
  refine ⟨fun hu => ?unit, fun n hu => ⟨fun hr => ?running, fun hr hp => ?length, fun hv hp => ?vacant,
    fun hi hp => ?idle⟩⟩
  case unit => exact unmapRequest_answered h (onService_of_no_service hu _) rfl rfl
  case running => exact unmapRequest_answered h ((onService_of_unit hu _).trans (unmapAct_of_running hr)) rfl rfl
  case length => exact unmapRequest_answered h ((onService_of_unit hu _).trans (unmapAct_of_length hr hp)) rfl rfl
  case vacant => exact unmapRequest_answered h ((onService_of_unit hu _).trans (unmapAct_of_vacant hv hp)) rfl rfl
  case idle =>
    refine ⟨s.unmapService n, ?_, s.setService_remapped_eq n [] (s.service n).unmapped, s.unmapService_owner n⟩
    have hact : unmapAct n f s.dequeued = ((s.unmapService n).dequeued, Answer.ok []) := by
      rw [unmapAct_of_idle (s := s.dequeued) hi hp, State.dequeued_unmapService]
    exact unmapRequest_answered h ((onService_of_unit hu _).trans hact) (s.unmapService_control n)
      (s.unmapService_operating n)

end Settled

/-! ### An accepted Map -/

theorem mapRequest_answered {s t : State} {f : ControlFrame} {rest : List ControlFrame} {a : Answer}
    (h : Serving s 0x10 f rest) (hact : onService mapAct f s.dequeued = (t.dequeued, a)) (hc : t.control = s.control)
    (ho : t.operating = s.operating) :
    exec .map s =
      .next (t.answered rest { kind := 0x90, tag := f.tag, unit := f.unit, payload := a.status.code :: a.detail }
        .ordinary) :=
  congrArg Host.Outcome.next (serve_answered h hact hc ho)

@[simp] theorem State.answered_owner (s : State) (rest : List ControlFrame) (frame : ControlFrame) (mark : ReplyMark) :
    (s.answered rest frame mark).owner = s.owner := by
  funext t slot
  cases t <;> rfl

/-- Settles O32: `mapAct_of_fits` served, with the owners by `State.remapped_owner_of_named` and its counterpart. -/
theorem mapAccepted : Obligations.MapAccepted := by
  intro s f rest n layout channels h hu hr hp hfits
  obtain ⟨hlength, -, hrepeat, -⟩ := mapFits_iff.mp hfits
  have hcheck : checkMap s.owner n f.payload = .ok (layout, channels) :=
    (mapChecksAcceptExactly _ _ _ _ _).mpr ⟨hp, hfits⟩
  have hcost : costOf layout (reserveOf channels) = (if reserveOf channels then 4 else 3) * channels.length := by
    rw [hlength, costOf]
    split <;> rfl
  have hact : onService mapAct f s.dequeued =
      ((s.mapService n layout channels).dequeued, Answer.ok [byteOf (costOf layout (reserveOf channels))]) :=
    (onService_of_unit hu _).trans (mapAct_of_fits hr hcheck)
  refine ⟨_, reserveOf channels, costOf layout (reserveOf channels), mapRequest_answered h hact rfl rfl,
    List.all_eq_true, hcost, rfl, fun table slot => ⟨fun c ch hch hslot => ?named, fun hnot => ?other⟩,
    fun m hm => ?records, ?record⟩
  case named =>
    have hc : c < 6 := by
      obtain ⟨hlt, -⟩ := List.getElem?_eq_some_iff.mp hch
      have := layout.channels_le
      omega
    refine ⟨{ service := n, channel := Fin.ofNat 6 c }, ?_, rfl, Nat.mod_eq_of_lt hc⟩
    rw [State.answered_owner, State.mapService, State.setService_owner]
    exact State.remapped_owner_of_named hrepeat hch hslot
  case other =>
    rw [State.answered_owner, State.mapService, State.setService_owner, State.remapped_owner_of_not_named hnot,
      filter_service_ne]
  case records => exact State.service_setService_other _ _ hm
  case record =>
    rw [hlength]
    exact State.service_setService_same _ _ _

/-! ### A refused Map -/

theorem mapRequest_of_refusal {s : State} {f : ControlFrame} {rest : List ControlFrame} {n : ServiceIndex}
    {refusal : MapRefusal} (h : Serving s 0x10 f rest) (hu : f.unit = BitVec.ofNat 8 n.val)
    (hr : (s.service n).lifecycle.running = false) (hc : checkMap s.owner n f.payload = .error refusal) :
    exec .map s =
      .next (s.answered rest
        { kind := 0x90, tag := f.tag, unit := f.unit
          payload := (mapRefused f refusal).status.code :: (mapRefused f refusal).detail } .ordinary) :=
  mapRequest_answered h ((onService_of_unit hu _).trans (mapAct_of_refusal hr hc)) rfl rfl

/-- A reply byte that names a channel of a map. -/
theorem byteOf_channel {layout : Layout} {channels : List ChannelMap} (hl : channels.length = layout.channels)
    {f : MapField} (hf : f ∈ mapFields channels) : byteOf (Fin.ofNat 6 f.channel).val = BitVec.ofNat 8 f.channel := by
  have hlt := MapField.channel_lt hf
  have hle := layout.channels_le
  rw [Fin.val_ofNat, Nat.mod_eq_of_lt (by omega)]
  rfl

theorem layoutOfCode_eq_none {code : Byte} (h1 : code ≠ 1) (h2 : code ≠ 2) (h6 : code ≠ 6) :
    layoutOfCode code = none := by
  rw [layoutOfCode, if_neg h1, if_neg h2, if_neg h6]

theorem exists_layoutOfCode {code : Byte} (h : code = 1 ∨ code = 2 ∨ code = 6) :
    ∃ layout, layoutOfCode code = some layout ∧ layout.channels = code.toNat := by
  rcases h with rfl | rfl | rfl
  · exact ⟨.mono, rfl, rfl⟩
  · exact ⟨.stereo, rfl, rfl⟩
  · exact ⟨.surround, rfl, rfl⟩

/-- The first slot byte out of its range, by its place in the payload, is what the range check names (R25). -/
theorem rangeRefusal_of_first {slots : List Byte} {count k : Nat} (hl : slots.length = 3 * count)
    (hk : k < slots.length)
    (hbefore : ∀ j b, j < k → slots[j]? = some b → b.toNat < 32 ∨ j % 3 = 1 ∧ b = 0xFF)
    (hbad : ∀ b, slots[k]? = some b → 32 ≤ b.toNat ∧ ¬(k % 3 = 1 ∧ b = 0xFF)) :
    ((rawChannels slots).zipIdx.findSome? fun (raw, c) => rangeRefusal c raw) =
      some (.range (byteOf (k / 3)) (byteOf (k % 3 + 1))) := by
  have hget : ∀ i, i < 3 → ∃ b, slots[3 * (k / 3) + i]? = some b := fun i hi =>
    ⟨_, List.getElem?_eq_getElem (by omega)⟩
  obtain ⟨m, hm⟩ := hget 0 (by omega)
  obtain ⟨r, hr⟩ := hget 1 (by omega)
  obtain ⟨o, ho⟩ := hget 2 (by omega)
  -- The bytes of a channel up to `k` are in range, as those before `k`.
  have hmain : ∀ c b, 3 * c < k → slots[3 * c]? = some b → ¬32 ≤ b.toNat := fun c b hlt hb => by
    have := hbefore _ b hlt hb
    omega
  have hreserve : ∀ c b, 3 * c + 1 < k → slots[3 * c + 1]? = some b → ¬(b ≠ 0xFF ∧ 32 ≤ b.toNat) :=
    fun c b hlt hb ⟨hne, hge⟩ => (hbefore _ b hlt hb).elim (fun hin => by omega) fun hn => hne hn.2
  have houtput : ∀ c b, 3 * c + 2 < k → slots[3 * c + 2]? = some b → ¬32 ≤ b.toNat := fun c b hlt hb => by
    have := hbefore _ b hlt hb
    omega
  refine zipIdx_findSome?_eq_of_first ((rawChannels_getElem? slots (k / 3) m r o).mpr ⟨hm, hr, ho⟩) ?_ ?_
  · show rangeRefusal (k / 3) (m, r, o) = _
    rw [rangeRefusal_eq]
    have hcases : k % 3 = 0 ∨ k % 3 = 1 ∨ k % 3 = 2 := by omega
    rcases hcases with h3 | h3 | h3
    · obtain ⟨hge, -⟩ := hbad m (by rw [← hm]; congr 1; omega)
      rw [if_pos hge, h3]
      rfl
    · obtain ⟨hge, hne⟩ := hbad r (by rw [← hr]; congr 1; omega)
      rw [if_neg (hmain _ m (by omega) hm), if_pos ⟨fun he => hne ⟨h3, he⟩, hge⟩, h3]
      rfl
    · obtain ⟨hge, -⟩ := hbad o (by rw [← ho]; congr 1; omega)
      rw [if_neg (hmain _ m (by omega) hm), if_neg (hreserve _ r (by omega) hr), if_pos hge, h3]
      rfl
  · rintro j ⟨m', r', o'⟩ hj hraw
    obtain ⟨hm', hr', ho'⟩ := (rawChannels_getElem? slots j m' r' o').mp hraw
    dsimp only
    rw [rangeRefusal_eq, if_neg (hmain _ _ (by omega) hm'), if_neg (hreserve _ _ (by omega) hr'),
      if_neg (houtput _ _ (by omega) ho')]

namespace Settled

/-- Settles O33: each clause is the first check that fails, served as a refusal. -/
theorem mapRefused : Obligations.MapRefused := by
  refine ⟨fun s f rest h => ⟨fun hu => ?unit, fun n hu => ⟨fun hr => ?running, fun hr => ⟨fun hp => ?empty,
    fun layout channels hp hl => ⟨fun first ch c hfirst hch hne hbefore => ?reserve,
      fun before after earlier field hagree hfields he htable hslot hbefore => ?repeated⟩,
    fun code slots hp => ⟨fun h1 h2 h6 => ?code, fun hcode => ⟨fun hl => ?length,
      fun k hl hk hbefore hbad => ?range⟩⟩⟩⟩⟩, ?owned⟩
  case unit => exact mapRequest_answered h (onService_of_no_service hu _) rfl rfl
  case running => exact mapRequest_answered h ((onService_of_unit hu _).trans (mapAct_of_running hr)) rfl rfl
  case empty =>
    have hlength : (0 : Byte) = byteOf f.payload.length := by rw [hp]; rfl
    rw [hlength]
    exact mapRequest_of_refusal h hu hr (checkMap_of_parse (by rw [hp]; rfl)) (refusal := .length)
  case reserve =>
    refine mapRequest_of_refusal h hu hr (checkMap_of_parse ?_) (refusal := .range (byteOf c) 2)
    rw [hp, parseMap_mapPayload hl, reserveRefusal_of_first hfirst hch hne hbefore, Option.elim]
  case repeated =>
    have hin : earlier ∈ mapFields channels := by
      rw [hfields]
      exact List.mem_append_left _ he
    have hparse : parseMap f.payload = .ok (layout, channels) := parseMap_eq_ok.mpr ⟨hp, hl, hagree⟩
    rw [← byteOf_channel hl hin]
    exact mapRequest_of_refusal h hu hr
      (checkMap_of_repeat hparse (repeatRefusal_of_first hfields he htable hslot hbefore))
  case code =>
    refine mapRequest_of_refusal h hu hr (checkMap_of_parse ?_) (refusal := .range 0xFF 0)
    rw [hp, parseMap_of_code slots (layoutOfCode_eq_none h1 h2 h6)]
  case length =>
    obtain ⟨layout, hlayout, hcount⟩ := exists_layoutOfCode hcode
    refine mapRequest_of_refusal h hu hr (checkMap_of_parse ?_) (refusal := .length)
    rw [hp, parseMap_of_length hlayout (by rwa [hcount])]
  case range =>
    obtain ⟨layout, hlayout, hcount⟩ := exists_layoutOfCode hcode
    refine mapRequest_of_refusal h hu hr (checkMap_of_parse ?_)
      (refusal := .range (byteOf (k / 3)) (byteOf (k % 3 + 1)))
    rw [hp, parseMap_of_range hlayout (by rwa [hcount]) (rangeRefusal_of_first hl hk hbefore hbad)]
  case owned =>
    intro s f rest n layout before after field channels o h hu hr hp hfits hfields hbefore howner hne
    obtain ⟨hl, hagree, hrepeat, -⟩ := mapFits_iff.mp hfits
    have hparse : parseMap f.payload = .ok (layout, channels) := parseMap_eq_ok.mpr ⟨hp, hl, hagree⟩
    exact mapRequest_of_refusal h hu hr
      (checkMap_of_owner hparse hrepeat (ownerRefusal_of_first hfields hbefore howner hne))

end Settled

end Sys2Proof.Machine
end

section
/-! PROOF. The commands that leave slot tables, service records, the committed total and the frame count alone. -/

namespace Sys2Proof.Machine

/-- The slot tables, the service records, the committed total and the frame count of a part. -/
structure Records where
  tableA : SlotTable
  tableB : SlotTable
  tableOut : SlotTable
  services : Vector Service 16
  committed : Nat
  frame : Nat

def State.records (s : State) : Records :=
  { tableA := s.tableA, tableB := s.tableB, tableOut := s.tableOut, services := s.services, committed := s.committed
    frame := s.frame }

section
variable {s t : State} (h : t.records = s.records)
include h

theorem State.owner_of_records : t.owner = s.owner := by
  funext id slot
  cases id
  · exact congrArg (fun r => r.tableA.get slot) h
  · exact congrArg (fun r => r.tableB.get slot) h
  · exact congrArg (fun r => r.tableOut.get slot) h

theorem State.service_of_records (n : ServiceIndex) : t.service n = s.service n :=
  congrArg (fun r => r.services.get n) h

theorem State.committed_of_records : t.committed = s.committed :=
  congrArg Records.committed h

theorem State.frame_of_records : t.frame = s.frame :=
  congrArg Records.frame h

end

/-! ### Shared operations -/

section
variable (s : State)

@[simp] theorem State.kick_records : s.kick.records = s.records := by
  rw [State.kick_eq]
  rfl

@[simp] theorem State.raise_records (o : Origin) (d : Detail) : (s.raise o d).records = s.records := rfl

@[simp] theorem State.appendReply_records (frame : ControlFrame) (mark : ReplyMark) :
    (s.appendReply frame mark).records = s.records := rfl

@[simp] theorem State.dequeued_records : s.dequeued.records = s.records := rfl

@[simp] theorem State.sampleProtect_records (level : PinLevel) : (s.sampleProtect level).records = s.records := rfl

@[simp] theorem State.setReceiver_records (p : Port) (r : Receiver) : (s.setReceiver p r).records = s.records := by
  cases p <;> rfl

@[simp] theorem State.portChanged_records (p : Port) (r : Receiver) (raised : Bool) :
    (s.portChanged p r raised).records = s.records := by
  unfold State.portChanged
  dsimp only
  split <;> simp

/-- Serving leaves the records alone when its rule does. -/
theorem serve_records {kind : Byte} {act : ControlFrame → State → State × Answer}
    (hact : ∀ f t, (act f t).1.records = t.records) : (serve kind act s).records = s.records :=
  serve_keeps (P := fun t => t.records = s.records) (fun _ h => h) (fun f t h => (hact f t).trans h)
    (fun t frame mark h => ((State.kick_records _).trans (t.appendReply_records frame mark)).trans h) rfl

/-! ### Clock unit and ports -/

theorem missingEdge_records : (missingEdge s).records = s.records := by
  unfold missingEdge
  split <;> rfl

theorem clockToInternal_records : (clockToInternal s).records = s.records := by
  unfold clockToInternal
  split
  · exact State.kick_records _
  · rfl

theorem refclkEdge_records (before : Rat) (since : Option Rat) : (refclkEdge before since s).records = s.records := by
  unfold refclkEdge
  split <;> rfl

theorem clockToReference_records : (clockToReference s).records = s.records := by
  unfold clockToReference
  split
  · exact State.kick_records _
  · rfl

theorem searchFramePosition_records (p : Port) (bits : Option (BitVec 16)) :
    (searchFramePosition p bits s).records = s.records := by
  unfold searchFramePosition
  dsimp only
  split
  · exact State.portChanged_records ..
  · rfl

theorem portLock_records (p : Port) (body : LinkBody) : (portLock p body s).records = s.records := by
  unfold portLock
  dsimp only
  split
  · rw [State.kick_records, State.portChanged_records]
  · rfl

theorem linkFrameArrival_records (p : Port) (line : Option LinkFrame) :
    (linkFrameArrival p line s).records = s.records := by
  unfold linkFrameArrival
  dsimp only
  split
  · rw [State.kick_records, State.portChanged_records]
  · rfl

theorem portLossOfSync_records (p : Port) : (portLossOfSync p s).records = s.records := by
  unfold portLossOfSync
  dsimp only
  split
  · rw [State.kick_records, State.portChanged_records]
  · rfl

/-! ### Control port -/

theorem State.frameDiscarded_records (reason : Byte) : (s.frameDiscarded reason).records = s.records :=
  State.kick_records _

theorem State.handOver_records (f : ControlFrame) : (s.handOver f).records = s.records := by
  unfold State.handOver
  split
  · rfl
  · exact State.kick_records _

theorem controlByteReceived_records (value : Byte) (stop : PinLevel) :
    (controlByteReceived value stop s).records = s.records := by
  unfold controlByteReceived
  split <;> rfl

theorem controlFrameComplete_records : (controlFrameComplete s).records = s.records := by
  unfold controlFrameComplete
  split
  · split
    · split
      · exact s.handOver_records _
      · exact s.frameDiscarded_records _
    · rfl
  · rfl

theorem lengthFault_records : (lengthFault s).records = s.records := by
  unfold lengthFault
  split
  · split
    · exact s.frameDiscarded_records _
    · rfl
  · rfl

theorem frameTimeout_records : (frameTimeout s).records = s.records := by
  unfold frameTimeout
  split
  · split
    · exact s.frameDiscarded_records _
    · rfl
  · rfl

theorem transmitFrameEnd_records : (transmitFrameEnd s).records = s.records := by
  unfold transmitFrameEnd
  split
  · split
    · rfl
    · exact State.kick_records _
    · exact State.kick_records _
  · rfl

theorem unknownKind_records : (unknownKind s).records = s.records := by
  unfold unknownKind
  split
  · rfl
  · exact State.kick_records _

/-! ### Requests, store and resets -/

theorem identifyRequest_records : (identifyRequest s).records = s.records :=
  serve_records s fun f t => congrArg State.records (identifyAct_state f t)

theorem queryRequest_records (protect : PinLevel) : (queryRequest protect s).records = s.records :=
  serve_records s fun f t => (congrArg State.records (queryAct_state f _)).trans (t.sampleProtect_records protect)

theorem peekRequest_records : (peekRequest s).records = s.records :=
  serve_records s fun f t => congrArg State.records (peekAct_state f t)

theorem portsRequest_records : (portsRequest s).records = s.records := by
  refine serve_records s fun f t => ?_
  rcases portsAct_cases f t with he | ⟨p, limit, -, -, he⟩ <;> rw [he]
  exact State.setReceiver_records ..

theorem notifyRequest_records : (notifyRequest s).records = s.records := by
  refine serve_records s fun f t => ?_
  rw [notifyAct_eq]
  rfl

theorem storeRequest_records (protect : PinLevel) : (storeRequest protect s).records = s.records := by
  unfold storeRequest
  split
  · rfl
  · dsimp only
    split
    · exact State.kick_records _
    · rfl

theorem storeComplete_records (good : Bool) : (storeComplete good s).records = s.records := by
  unfold storeComplete
  split
  · split
    · exact State.kick_records _
    · rfl
  · rfl

theorem resetRequest_records : (resetRequest s).records = s.records := by
  have hrefuse : ∀ frame, (s.dequeued.appendReply frame .ordinary).kick.records = s.records :=
    fun frame => State.kick_records _
  unfold resetRequest
  split
  · rfl
  dsimp only
  split
  · exact hrefuse _
  split
  · split
    · exact hrefuse _
    · split
      · exact hrefuse _
      · exact State.kick_records _
  · exact hrefuse _

end

end Sys2Proof.Machine
end

section
/-! PROOF. What any command does to the maps, the lifecycle states and the committed total, said once for the laws of slot
ownership (R20) and engine budget (R53). -/

namespace Sys2Proof.Machine

/-! ### Records that hold the same slots and units -/

/-- A part with another committed total (R53). -/
def State.withCommitted (s : State) (units : Nat) : State :=
  { s with committed := units }

section
variable (s : State) (units : Nat)

@[simp] theorem State.withCommitted_committed : (s.withCommitted units).committed = units := rfl

@[simp] theorem State.withCommitted_service (n : ServiceIndex) : (s.withCommitted units).service n = s.service n := rfl

@[simp] theorem State.withCommitted_owner : (s.withCommitted units).owner = s.owner := by
  funext t slot
  cases t <;> rfl

end

/-- What the two laws read of a record: its map with layout and cost, and whether it is VACANT and whether it runs. -/
structure SameHolding (sv sv' : Service) : Prop where
  layout : sv'.layout = sv.layout
  map : sv'.map = sv.map
  reserveMapped : sv'.reserveMapped = sv.reserveMapped
  cost : sv'.cost = sv.cost
  vacant : sv'.lifecycle = .vacant ↔ sv.lifecycle = .vacant
  running : sv'.lifecycle.running = sv.lifecycle.running

structure SameHoldings (s t : State) : Prop where
  owner : t.owner = s.owner
  committed : t.committed = s.committed
  service : ∀ n, SameHolding (s.service n) (t.service n)

theorem SameHolding.refl (sv : Service) : SameHolding sv sv :=
  ⟨rfl, rfl, rfl, rfl, Iff.rfl, rfl⟩

/-- A record that leaves the state, the map and the cost alone holds the same. -/
theorem SameHolding.of_lifecycle {sv sv' : Service} (hlayout : sv'.layout = sv.layout) (hmap : sv'.map = sv.map)
    (hreserve : sv'.reserveMapped = sv.reserveMapped) (hcost : sv'.cost = sv.cost)
    (hlifecycle : sv'.lifecycle = sv.lifecycle) : SameHolding sv sv' :=
  ⟨hlayout, hmap, hreserve, hcost, by rw [hlifecycle], by rw [hlifecycle]⟩

/-- So does one that goes from a running state to a running state. -/
theorem SameHolding.of_running {sv sv' : Service} (hlayout : sv'.layout = sv.layout) (hmap : sv'.map = sv.map)
    (hreserve : sv'.reserveMapped = sv.reserveMapped) (hcost : sv'.cost = sv.cost)
    (hbefore : sv.lifecycle.running = true) (hafter : sv'.lifecycle.running = true) : SameHolding sv sv' := by
  have hnot : ∀ l : Lifecycle, l.running = true → l ≠ .vacant := by
    rintro l hl rfl
    cases hl
  exact ⟨hlayout, hmap, hreserve, hcost, iff_of_false (hnot _ hafter) (hnot _ hbefore), hafter.trans hbefore.symm⟩

theorem SameHoldings.of_records {s t : State} (h : t.records = s.records) : SameHoldings s t :=
  ⟨State.owner_of_records h, State.committed_of_records h, fun n => by
    rw [State.service_of_records h]
    exact SameHolding.refl _⟩

theorem SameHoldings.setService {s : State} {n : ServiceIndex} {sv : Service} (h : SameHolding (s.service n) sv) :
    SameHoldings s (s.setService n sv) where
  owner := s.setService_owner n sv
  committed := rfl
  service m := by
    rw [State.service_setService]
    split
    · next hm => exact hm ▸ h
    · exact SameHolding.refl _

/-! ### Running states -/

theorem Resume.lifecycle_running (r : Resume) : r.lifecycle.running = true := by
  cases r <;> rfl

/-- A close takes a running service to a running state or to IDLE (R43 to R46). -/
theorem Service.close_lifecycle {sv : Service} (h : sv.lifecycle.running = true) (a b : Bool) (w : Word32) :
    (sv.close a b w).service.lifecycle.running = true ∨ (sv.close a b w).service.lifecycle = .idle := by
  have hstage : ∀ (x : Service) (measuring : Bool) (d : FeedDecision), x.lifecycle.running = true →
      (x.lifecycleStage sv.lifecycle measuring d).lifecycle.running = true ∨
        (x.lifecycleStage sv.lifecycle measuring d).lifecycle = .idle := by
    intro x measuring d hx
    unfold Service.lifecycleStage
    dsimp only
    split
    · unfold Service.haltStage
      split
      · exact .inl hx
      · exact .inr rfl
      · exact .inl hx
    · exact .inl rfl
    · refine .inl ?_
      show ((x.resume.map Resume.lifecycle).getD .priming).running = true
      cases x.resume with
      | none => rfl
      | some r => exact r.lifecycle_running
    · refine .inl ?_
      show (primedState sv.lifecycle measuring x.meas.ring).running = true
      unfold primedState
      split
      · rfl
      · exact h
  simp only [Service.close]
  refine hstage _ _ _ ?_
  split <;> simpa using h

/-! ### Requests that change a record -/

section
variable (n : ServiceIndex) (f : ControlFrame) (s : State)

/-- Start from IDLE commits the service's cost where it fits (R36, R37); any other keeps what the service holds (R39). -/
theorem startAct_holdings :
    SameHoldings s (startAct n f s).1 ∨
      (s.service n).lifecycle = .idle ∧ s.committed + (s.service n).cost ≤ 96 ∧
        (startAct n f s).1 =
          (s.setService n ((s.service n).started true)).withCommitted (s.committed + (s.service n).cost) := by
  have hrefl : SameHoldings s s := SameHoldings.of_records rfl
  unfold startAct
  dsimp only
  split
  · next _ hl =>
    split
    · exact .inl hrefl
    split
    · exact .inl hrefl
    · next hfit => exact .inr ⟨hl, Nat.le_of_not_lt hfit, rfl⟩
  · next _ hl =>
    split
    · exact .inl hrefl
    · exact .inl (SameHoldings.setService
        (SameHolding.of_running rfl rfl rfl rfl (by rw [hl]; rfl) (Resume.lifecycle_running _)))
  · split
    · exact .inl hrefl
    · exact .inl (SameHoldings.setService (SameHolding.of_lifecycle rfl rfl rfl rfl rfl))
  · exact .inl hrefl

theorem haltAct_holdings : SameHoldings s (haltAct n f s).1 := by
  have hrefl : SameHoldings s s := SameHoldings.of_records rfl
  unfold haltAct
  dsimp only
  split
  · exact hrefl
  split
  · exact hrefl
  split
  · exact hrefl
  · next hv _ hi =>
    refine SameHoldings.setService (SameHolding.of_running rfl rfl rfl rfl ?_ rfl)
    cases hl : (s.service n).lifecycle <;> simp [hl] at hv hi <;> rfl

theorem bypassAct_holdings : SameHoldings s (bypassAct n f s).1 := by
  have hrefl : SameHoldings s s := SameHoldings.of_records rfl
  unfold bypassAct
  dsimp only
  split
  · exact hrefl
  · exact hrefl
  · exact hrefl
  · split <;> exact hrefl
  · next hl =>
    split
    · exact hrefl
    · exact SameHoldings.setService (SameHolding.of_running rfl rfl rfl rfl (by rw [hl]; rfl) rfl)
  · next hl =>
    split
    · exact hrefl
    · exact SameHoldings.setService (SameHolding.of_running rfl rfl rfl rfl (by rw [hl]; rfl) rfl)
  · split
    · exact hrefl
    · exact SameHoldings.setService (SameHolding.of_lifecycle rfl rfl rfl rfl rfl)

/-- RESTART takes an ACTIVE service to PRIMING and no other (R89). -/
theorem Service.restarted_holding (sv : Service) : SameHolding sv sv.restarted := by
  by_cases h : sv.lifecycle = .active
  · exact SameHolding.of_running rfl rfl rfl rfl (by rw [h]; rfl) (by rw [Service.restarted, if_pos h]; rfl)
  · exact SameHolding.of_lifecycle rfl rfl rfl rfl (if_neg h)

theorem markAct_holdings : SameHoldings s (markAct n f s).1 := by
  have hrefl : SameHoldings s s := SameHoldings.of_records rfl
  have hmarked : ∀ (b restart : Bool), SameHolding (s.service n)
      (if restart then ((s.service n).marked b).restarted else (s.service n).marked b) := by
    intro b restart
    cases restart with
    | false => exact SameHolding.of_lifecycle rfl rfl rfl rfl rfl
    | true =>
      have h := ((s.service n).marked b).restarted_holding
      exact ⟨h.layout, h.map, h.reserveMapped, h.cost, h.vacant, h.running⟩
  unfold markAct
  dsimp only
  cases (s.service n).lifecycle with
  | vacant | idle | halting => exact hrefl
  | priming | active | bypass | dropped =>
    dsimp only
    split
    · split
      · exact hrefl
      · exact SameHoldings.setService (hmarked _ _)
    · exact hrefl

theorem selectAct_holdings : SameHoldings s (selectAct n f s).1 := by
  have hrefl : SameHoldings s s := SameHoldings.of_records rfl
  unfold selectAct
  dsimp only
  split
  · exact hrefl
  split
  · split
    · exact SameHoldings.setService (SameHolding.of_lifecycle rfl rfl rfl rfl rfl)
    · exact hrefl
  · exact hrefl

theorem profileAct_holdings (protect : PinLevel) : SameHoldings s (profileAct protect n f s).1 := by
  have hrefl : SameHoldings s s := SameHoldings.of_records rfl
  unfold profileAct
  dsimp only
  split
  · exact hrefl
  split
  · exact hrefl
  generalize (if protect = .high then _ else none : Option Byte) = refusal
  cases refusal with
  | some index => exact hrefl
  | none =>
    dsimp only
    split <;> exact SameHoldings.setService (SameHolding.of_lifecycle rfl rfl rfl rfl rfl)

/-- A Map is refused, or gives a service that does not run a map that fits (R24 to R30). -/
theorem mapAct_holdings :
    (mapAct n f s).1 = s ∨ ∃ layout channels, (s.service n).lifecycle.running = false ∧
      MapFits s.owner n layout channels ∧ (mapAct n f s).1 = s.mapService n layout channels := by
  unfold mapAct
  dsimp only
  split
  · exact .inl rfl
  split
  · exact .inl rfl
  · next hr _ layout channels hc =>
    exact .inr ⟨layout, channels, Bool.eq_false_iff.mpr hr, ((mapChecksAcceptExactly _ _ _ _ _).mp hc).2, rfl⟩

/-- An Unmap leaves the part alone, or frees an IDLE service's slots (R31). -/
theorem unmapAct_holdings :
    (unmapAct n f s).1 = s ∨ (s.service n).lifecycle = .idle ∧ (unmapAct n f s).1 = s.unmapService n := by
  unfold unmapAct
  dsimp only
  split
  · exact .inl rfl
  split
  · exact .inl rfl
  split
  · exact .inl rfl
  · next hr _ hv =>
    refine .inr ⟨?_, rfl⟩
    cases hl : (s.service n).lifecycle <;> simp [hl, Lifecycle.running] at hr hv ⊢

end

theorem outputFrame_holdings (s : State) : SameHoldings s (outputFrame s) := by
  by_cases h : s.operating = true ∧ s.clock.start = .given ∧ s.frame < 4800
  · obtain ⟨ho, hg, hf⟩ := h
    refine ⟨?_, ?_, fun n => ?_⟩
    · rw [outputFrame_of_given ho hg hf]
      rfl
    · rw [outputFrame_of_given ho hg hf]
    · rw [State.service_of_services (outputFrame_services ho hg hf)]
      exact SameHolding.of_lifecycle (by simp) (by simp) (by simp) (by simp) (by simp)
  · have hsame : outputFrame s = s := by
      refine if_neg fun hc => h ?_
      simp only [Bool.and_eq_true, beq_iff_eq, decide_eq_true_eq] at hc
      exact ⟨hc.1.1, hc.1.2, hc.2⟩
    rw [hsame]
    exact SameHoldings.of_records rfl

/-! ### Laws of what services hold -/

/-- A law that every way in which a command can move slots, maps or units keeps: what a service holds may stay, take a map
that fits (R28), lose it (R31), begin to run (R37), close (R42), go back to IDLE in a reset with KEEP or be loaded afresh
(R188). -/
structure HoldingsLaw (P : State → Prop) : Prop where
  same : ∀ {s t : State}, P s → SameHoldings s t → P t
  mapped : ∀ {s : State} {n : ServiceIndex} {layout : Layout} {channels : List ChannelMap}, P s →
    (s.service n).lifecycle.running = false → MapFits s.owner n layout channels → P (s.mapService n layout channels)
  unmapped : ∀ {s : State} {n : ServiceIndex}, P s → (s.service n).lifecycle = .idle → P (s.unmapService n)
  started : ∀ {s : State} {n : ServiceIndex} (entry : Bool), P s → (s.service n).lifecycle = .idle →
    s.committed + (s.service n).cost ≤ 96 →
    P ((s.setService n ((s.service n).started entry)).withCommitted (s.committed + (s.service n).cost))
  closed : ∀ {s : State} (n : ServiceIndex), P s → P (s.closeService n)
  kept : ∀ {s : State}, P s → P (s.keptOver.withCommitted 0)
  free : ∀ {s : State}, (∀ t slot, s.owner t slot = none) → (∀ n, ∃ p, s.service n = Service.loaded p) →
    s.committed = 0 → P s

namespace HoldingsLaw

variable {P : State → Prop} (hP : HoldingsLaw P) {s : State}
include hP

theorem of_records {t : State} (h : P s) (ht : t.records = s.records) : P t :=
  hP.same h (SameHoldings.of_records ht)

theorem serve {kind : Byte} {act : ControlFrame → State → State × Answer} (hact : ∀ f t, P t → P (act f t).1)
    (h : P s) : P (serve kind act s) :=
  serve_keeps (fun t ht => hP.of_records ht t.dequeued_records) hact
    (fun t frame mark ht => hP.of_records ht ((State.kick_records _).trans (t.appendReply_records frame mark))) h

theorem serve_onService {kind : Byte} {act : ServiceIndex → ControlFrame → State → State × Answer}
    (hact : ∀ n f t, P t → P (act n f t).1) (h : P s) : P (Machine.serve kind (onService act) s) :=
  hP.serve (fun f _ ht => onService_keeps f hact ht) h

theorem startRequest (h : P s) : P (startRequest s) := by
  refine hP.serve_onService (fun n f t ht => ?_) h
  rcases startAct_holdings n f t with hsame | ⟨hl, hfit, he⟩
  · exact hP.same ht hsame
  · rw [he]
    exact hP.started true ht hl hfit

theorem mapRequest (h : P s) : P (mapRequest s) := by
  refine hP.serve_onService (fun n f t ht => ?_) h
  rcases mapAct_holdings n f t with he | ⟨layout, channels, hr, hfits, he⟩ <;> rw [he]
  · exact ht
  · exact hP.mapped ht hr hfits

theorem unmapRequest (h : P s) : P (unmapRequest s) := by
  refine hP.serve_onService (fun n f t ht => ?_) h
  rcases unmapAct_holdings n f t with he | ⟨hl, he⟩ <;> rw [he]
  · exact ht
  · exact hP.unmapped ht hl

theorem profileRequest (h : P s) (protect : PinLevel) : P (profileRequest protect s) :=
  hP.serve (fun f t ht => onService_keeps f (fun n f u hu => hP.same hu (profileAct_holdings n f u protect))
    (hP.of_records ht (t.sampleProtect_records protect))) h

/-- The closes of a subblock end, in any order (R178). -/
theorem subblockEnd (h : P s) (order : List CloseItem) : P (subblockEnd order s) := by
  have hitems : ∀ (changed : Port → Bool) (items : List CloseItem) (t : State), P t →
      P (items.foldl (State.closeItem changed) t) := by
    intro changed items
    induction items with
    | nil => exact fun _ ht => ht
    | cons i items ih =>
      refine fun t ht => ih _ ?_
      cases i with
      | port p =>
        show P (if changed p then t.raise (.port p) (t.receiver p).notice else t)
        split
        · exact hP.of_records ht (t.raise_records _ _)
        · exact ht
      | service n => exact hP.closed n ht
  by_cases hdue : s.operating = true ∧ s.frame = 4800
  · obtain ⟨ho, hf⟩ := hdue
    rw [subblockEnd_of_due order ho hf]
    have hclosed : P (s.itemsTaken order) := hitems s.syncChanged (completeOrder order) s.assessed (hP.of_records h rfl)
    have hnext : P { s.itemsTaken order with frame := 0, subblock := s.subblock + 1 } :=
      hP.same hclosed ⟨rfl, rfl, fun n => SameHolding.refl _⟩
    exact hP.of_records hnext (State.kick_records _)
  · have hsame : Machine.subblockEnd order s = s := if_neg (by simpa using hdue)
    rwa [hsame]

/-- Autostart starts what fits into the budget, one service after the other (R55, R56). -/
theorem autostarted (h : P s) (cause : ResetCause) : P (s.autostarted cause) := by
  have hone : ∀ (n : ServiceIndex) (t : State), P t → P (t.autostart n) := by
    intro n t ht
    unfold State.autostart
    dsimp only
    split
    · next hidle =>
      split
      · next hfit => exact hP.of_records (hP.started false ht hidle.1 hfit) (State.raise_records _ _ _)
      · exact hP.of_records ht (t.raise_records _ _)
    · exact ht
  have hall : ∀ (services : List ServiceIndex) (t : State), P t → P (services.foldl State.autostart t) := by
    intro services
    induction services with
    | nil => exact fun _ ht => ht
    | cons n services ih => exact fun t ht => ih _ (hone n t ht)
  exact hP.of_records (hall _ s h) ((State.kick_records _).trans (State.raise_records _ _ _))

end HoldingsLaw

end Sys2Proof.Machine
end

section
/-! PROOF. Every command keeps the law of slot ownership (R20) and the law of the engine budget (R53): O56. -/

namespace Sys2Proof.Machine

/-! ### The load, whatever is committed -/

theorem State.applyStored_withCommitted (i : Image) (s : State) (n : ServiceIndex) (units : Nat) :
    State.applyStored i (s.withCommitted units) n = (State.applyStored i s n).withCommitted units := by
  have howner := s.withCommitted_owner units
  cases h : (i.services.get n).map with
  | none => rw [State.applyStored_of_none h, State.applyStored_of_none h]
  | some payload =>
    rcases hc : checkMap s.owner n payload with refusal | ⟨layout, channels⟩
    · rw [State.applyStored_of_error h hc, State.applyStored_of_error h (howner ▸ hc)]
    · rw [State.applyStored_of_ok h hc, State.applyStored_of_ok h (howner ▸ hc)]
      rfl

theorem State.applyStored_all_withCommitted (i : Image) (services : List ServiceIndex) (s : State) (units : Nat) :
    services.foldl (State.applyStored i) (s.withCommitted units) =
      (services.foldl (State.applyStored i) s).withCommitted units := by
  induction services generalizing s with
  | nil => rfl
  | cons n services ih => rw [List.foldl_cons, State.applyStored_withCommitted, ih, List.foldl_cons]

namespace HoldingsLaw

variable {P : State → Prop} (hP : HoldingsLaw P) {s : State}
include hP

/-- Stored maps applied to services that do not run (R34). -/
theorem applyStored_all (i : Image) (services : List ServiceIndex) (h : P s)
    (hidle : ∀ n, (s.service n).lifecycle.running = false) : P (services.foldl (State.applyStored i) s) := by
  induction services generalizing s with
  | nil => exact h
  | cons n services ih =>
    rw [List.foldl_cons]
    rcases State.applyStored_cases i s n with he | ⟨payload, layout, channels, hc, he⟩ <;> rw [he]
    · exact ih h hidle
    · refine ih (hP.mapped h (hidle n) ((mapChecksAcceptExactly _ _ _ _ _).mp hc).2) fun m => ?_
      rw [State.mapService, State.service_setService]
      split
      · rfl
      · exact hidle m

/-- A load keeps the law whatever stood before it, with nothing committed (R34, R184). -/
theorem reloaded (s : State) : P (s.reloaded.withCommitted 0) := by
  have hload : P ((s.loadedFrom s.flash.items?).withCommitted 0) := by
    cases s.flash.items? with
    | none =>
      refine hP.free (fun t slot => ?_) (fun n => ⟨Profile.factory, Vector.get_replicate _ _ n⟩) rfl
      cases t <;> exact Vector.get_replicate _ _ slot
    | some i =>
      rw [State.loadedFrom_some, ← State.applyStored_all_withCommitted]
      refine hP.applyStored_all i _ (hP.free ?_ (fun n => ⟨_, s.loadBase_service i n⟩) rfl) fun n => ?_
      · rw [State.withCommitted_owner]
        exact s.loadBase_owner i
      · rw [State.withCommitted_service, State.loadBase_service]
        rfl
  exact hP.of_records hload rfl

theorem configured (h : P s) (option : ResetOption) : P ((s.configured option).withCommitted 0) := by
  cases option with
  | keep => exact hP.kept h
  | reload => exact hP.reloaded s

theorem resetRequestActs (h : P s) : P (resetRequestActs s) := by
  by_cases hd : s.operating = true ∧ ∃ option, s.control.resetPhase = .due option
  · obtain ⟨ho, option, hdue⟩ := hd
    rw [resetRequestActs_of_due ho hdue]
    have hcleared : P ((s.configured option).clearedFor .request) :=
      hP.same (hP.configured h option) ⟨rfl, rfl, fun n => SameHolding.refl _⟩
    exact hP.autostarted hcleared .request
  · have hsame : Machine.resetRequestActs s = s := by
      unfold Machine.resetRequestActs
      split
      · next option hdue => exact if_neg fun ho => hd ⟨ho, option, hdue⟩
      all_goals rfl
    rwa [hsame]

theorem startCleared (s : State) (cause : ResetCause) (rate1 rate0 : PinLevel) (age : Option Rat) :
    P (s.startCleared cause rate1 rate0 age) :=
  hP.same (hP.reloaded s.released) ⟨rfl, rfl, fun _ => SameHolding.refl _⟩

theorem startUp (s : State) (cause : ResetCause) (rate1 rate0 : PinLevel) (age : Option Rat) :
    P ((s.startCleared cause rate1 rate0 age).autostarted cause) :=
  hP.autostarted (hP.startCleared s cause rate1 rate0 age) cause

theorem powerOn (h : P s) (rate1 rate0 : PinLevel) (age : Option Rat) : P (powerOn rate1 rate0 age s) := by
  cases hs : s.pins.supplyGood with
  | true => rwa [Machine.powerOn, if_pos hs]
  | false =>
    cases hr : s.pins.resetAsserted with
    | true =>
      refine hP.of_records h ?_
      simp only [Machine.powerOn, hs, hr, Bool.false_eq_true, if_false, if_true]
      rfl
    | false =>
      rw [powerOn_of_dark hs hr]
      exact hP.startUp s .power rate1 rate0 age

theorem resetPinRelease (h : P s) (rate1 rate0 : PinLevel) (age : Option Rat) :
    P (resetPinRelease rate1 rate0 age s) := by
  cases hr : s.pins.resetAsserted with
  | false => rwa [Machine.resetPinRelease, if_neg (by simp [hr])]
  | true =>
    cases hs : s.pins.supplyGood with
    | true =>
      rw [resetPinRelease_of_held hs hr]
      exact hP.startUp s .pin rate1 rate0 age
    | false =>
      refine hP.of_records h ?_
      simp only [Machine.resetPinRelease, hs, hr, Bool.false_eq_true, if_false, if_true]
      rfl

/-- Every command keeps such a law. -/
theorem exec (c : Instr) (h : P s) : ∃ t, exec c s = .next t ∧ P t := by
  have hsame : ∀ t : State, t.records = s.records → P t := fun _ => hP.of_records h
  cases c with
  | outputFrame => exact ⟨_, rfl, hP.same h (outputFrame_holdings s)⟩
  | missingEdge => exact ⟨_, rfl, hsame _ (missingEdge_records s)⟩
  | clockToInternal => exact ⟨_, rfl, hsame _ (clockToInternal_records s)⟩
  | refclkEdge before since => exact ⟨_, rfl, hsame _ (refclkEdge_records s before since)⟩
  | clockToReference => exact ⟨_, rfl, hsame _ (clockToReference_records s)⟩
  | searchFramePosition p bits => exact ⟨_, rfl, hsame _ (searchFramePosition_records s p bits)⟩
  | portLock p body => exact ⟨_, rfl, hsame _ (portLock_records s p body)⟩
  | linkFrameArrival p line => exact ⟨_, rfl, hsame _ (linkFrameArrival_records s p line)⟩
  | portLossOfSync p => exact ⟨_, rfl, hsame _ (portLossOfSync_records s p)⟩
  | subblockEnd order => exact ⟨_, rfl, hP.subblockEnd h order⟩
  | controlFrameComplete => exact ⟨_, rfl, hsame _ (controlFrameComplete_records s)⟩
  | lengthFault => exact ⟨_, rfl, hsame _ (lengthFault_records s)⟩
  | frameTimeout => exact ⟨_, rfl, hsame _ (frameTimeout_records s)⟩
  | unknownKind => exact ⟨_, rfl, hsame _ (unknownKind_records s)⟩
  | identify => exact ⟨_, rfl, hsame _ (identifyRequest_records s)⟩
  | query protect => exact ⟨_, rfl, hsame _ (queryRequest_records s protect)⟩
  | peek => exact ⟨_, rfl, hsame _ (peekRequest_records s)⟩
  | map => exact ⟨_, rfl, hP.mapRequest h⟩
  | unmap => exact ⟨_, rfl, hP.unmapRequest h⟩
  | profile protect => exact ⟨_, rfl, hP.profileRequest h protect⟩
  | start => exact ⟨_, rfl, hP.startRequest h⟩
  | halt => exact ⟨_, rfl, hP.serve_onService (fun n f _ ht => hP.same ht (haltAct_holdings n f _)) h⟩
  | bypass => exact ⟨_, rfl, hP.serve_onService (fun n f _ ht => hP.same ht (bypassAct_holdings n f _)) h⟩
  | mark => exact ⟨_, rfl, hP.serve_onService (fun n f _ ht => hP.same ht (markAct_holdings n f _)) h⟩
  | select => exact ⟨_, rfl, hP.serve_onService (fun n f _ ht => hP.same ht (selectAct_holdings n f _)) h⟩
  | ports => exact ⟨_, rfl, hsame _ (portsRequest_records s)⟩
  | notify => exact ⟨_, rfl, hsame _ (notifyRequest_records s)⟩
  | store protect => exact ⟨_, rfl, hsame _ (storeRequest_records s protect)⟩
  | storeComplete good => exact ⟨_, rfl, hsame _ (storeComplete_records s good)⟩
  | reset => exact ⟨_, rfl, hsame _ (resetRequest_records s)⟩
  | resetRequestActs => exact ⟨_, rfl, hP.resetRequestActs h⟩
  | transmitFrameEnd => exact ⟨_, rfl, hsame _ (transmitFrameEnd_records s)⟩
  | powerOn rate1 rate0 age => exact ⟨_, rfl, hP.powerOn h rate1 rate0 age⟩
  | resetPinAssert => exact ⟨_, rfl, hsame _ rfl⟩
  | resetPinRelease rate1 rate0 age => exact ⟨_, rfl, hP.resetPinRelease h rate1 rate0 age⟩
  | controlByteReceived value stop => exact ⟨_, rfl, hsame _ (controlByteReceived_records s value stop)⟩
  | lossOfPower => exact ⟨_, rfl, hsame _ rfl⟩

theorem step (hqueue : ∀ (t : State) pending, P t → P { t with pending := pending }) {t : State} (h : P s)
    (hstep : step s = .next t) : P t :=
  step_keeps hqueue (fun c _ hu => hP.exec c hu) h hstep

end HoldingsLaw

/-! ### Slot ownership (R20) -/

/-- Maps that stay under owners that stay keep the law, as long as no service enters or leaves VACANT. -/
theorem State.SlotLaw.of_maps {s t : State} (h : s.SlotLaw) (howner : t.owner = s.owner)
    (hmap : ∀ n, (t.service n).layout = (s.service n).layout ∧ (t.service n).map = (s.service n).map ∧
      (t.service n).reserveMapped = (s.service n).reserveMapped ∧
      ((t.service n).lifecycle = .vacant ↔ (s.service n).lifecycle = .vacant)) : t.SlotLaw := by
  obtain ⟨howners, hmaps⟩ := State.slotLaw_iff.mp h
  refine ⟨fun id slot o => ?_, fun n => ?_⟩
  · obtain ⟨-, hm, -⟩ := hmap o.service
    rw [howner, howners id slot o, State.Names, State.Names, hm]
  · obtain ⟨hl, hm, hr, hv⟩ := hmap n
    obtain ⟨hvacant, hlength, hreserve⟩ := hmaps n
    rw [hv, hl, hm, hr, Service.channels, hl]
    exact ⟨hvacant, hlength, hreserve⟩

theorem State.closeService_service (s : State) (n m : ServiceIndex) :
    (s.closeService n).service m = if m = n then s.closedService n else s.service m := by
  refine (State.closeItem_service (fun _ => false) s (.service n) m).trans ?_
  by_cases h : m = n
  · subst h
    simp
  · simp [h, Ne.symm h]

theorem State.closedService_lifecycle {s : State} {n : ServiceIndex} (h : (s.service n).lifecycle.running = true) :
    (s.closedService n).lifecycle.running = true ∨ (s.closedService n).lifecycle = .idle := by
  rw [State.closedService, if_pos h]
  exact Service.close_lifecycle h _ _ _

/-- A close keeps the map, and neither enters nor leaves VACANT (R23). -/
theorem State.closedService_map (s : State) (n : ServiceIndex) :
    (s.closedService n).layout = (s.service n).layout ∧ (s.closedService n).map = (s.service n).map ∧
      (s.closedService n).reserveMapped = (s.service n).reserveMapped ∧
      ((s.closedService n).lifecycle = .vacant ↔ (s.service n).lifecycle = .vacant) := by
  by_cases hr : (s.service n).lifecycle.running = true
  · have hvacant : (s.closedService n).lifecycle ≠ .vacant := by
      rcases State.closedService_lifecycle hr with h | h <;> intro hv <;> rw [hv] at h <;> cases h
    have hbefore : (s.service n).lifecycle ≠ .vacant := fun hv => by rw [hv] at hr; cases hr
    refine ⟨?_, ?_, ?_, iff_of_false hvacant hbefore⟩ <;> rw [State.closedService, if_pos hr]
    · exact Service.close_layout _ _ _ _
    · exact Service.close_map _ _ _ _
    · exact Service.close_reserveMapped _ _ _ _
  · rw [State.closedService, if_neg hr]
    exact ⟨rfl, rfl, rfl, Iff.rfl⟩

theorem slotLaw_holdings : HoldingsLaw State.SlotLaw where
  same h ht := h.of_maps ht.owner fun n =>
    ⟨(ht.service n).layout, (ht.service n).map, (ht.service n).reserveMapped, (ht.service n).vacant⟩
  mapped h _ hfits := h.mapService hfits
  unmapped h _ := h.unmapService
  started := by
    intro s n entry h hl _
    refine h.of_maps (by simp) fun m => ?_
    rw [State.withCommitted_service, State.service_setService]
    split
    · next hm =>
      subst hm
      exact ⟨rfl, rfl, rfl, iff_of_false (by simp [Service.started]) (by simp [hl])⟩
    · exact ⟨rfl, rfl, rfl, Iff.rfl⟩
  closed := by
    intro s n h
    refine h.of_maps (s.closeService_owner n) fun m => ?_
    rw [State.closeService_service]
    split
    · next hm => exact hm ▸ s.closedService_map m
    · exact ⟨rfl, rfl, rfl, Iff.rfl⟩
  kept := by
    intro s h
    refine h.of_maps ((s.keptOver.withCommitted_owner 0).trans (by funext t slot; cases t <;> rfl)) fun n => ?_
    rw [State.withCommitted_service, State.keptOver_service]
    refine ⟨rfl, rfl, rfl, ?_⟩
    show (if (s.service n).lifecycle = .vacant then Lifecycle.vacant else .idle) = .vacant ↔ _
    split
    · next hv => exact iff_of_true rfl hv
    · next hv => exact iff_of_false (by simp) hv
  free := by
    intro s howner hservice _
    refine ⟨fun t slot o => ?_, fun n => ?_⟩
    · obtain ⟨p, hp⟩ := hservice o.service
      rw [howner, State.Names, hp]
      exact iff_of_false (by simp) fun ⟨ch, hch, _⟩ => by cases hch
    · obtain ⟨p, hp⟩ := hservice n
      rw [hp]
      exact ⟨iff_of_true rfl rfl, rfl, fun ch hch => absurd hch List.not_mem_nil⟩

/-! ### Engine budget (R53) -/

theorem State.held_of_running {s : State} {n : ServiceIndex} (h : (s.service n).lifecycle.running = true) :
    s.held n = (s.service n).cost :=
  if_pos h

theorem State.held_of_not_running {s : State} {n : ServiceIndex} (h : (s.service n).lifecycle.running = false) :
    s.held n = 0 :=
  if_neg (by simp [h])

/-- Services that hold what they held keep the law. -/
theorem State.BudgetLaw.of_held {s t : State} (h : s.BudgetLaw) (hcommitted : t.committed = s.committed)
    (hheld : ∀ n, t.held n = s.held n) : t.BudgetLaw := by
  rw [State.BudgetLaw, hcommitted, Finset.sum_congr rfl fun n _ => hheld n]
  exact h

/-- Where no service holds any, no units may be committed. -/
theorem State.budgetLaw_of_idle {s : State} (hcommitted : s.committed = 0)
    (hidle : ∀ n, (s.service n).lifecycle.running = false) : s.BudgetLaw := by
  rw [State.BudgetLaw, hcommitted, Finset.sum_eq_zero fun n _ => State.held_of_not_running (hidle n)]
  exact ⟨rfl, Nat.zero_le _⟩

/-- One service that holds more or less moves the sum by as much. -/
theorem State.sum_held_of_other {s t : State} {n : ServiceIndex} (h : ∀ m, m ≠ n → t.held m = s.held m) :
    (∑ m : ServiceIndex, t.held m) + s.held n = (∑ m : ServiceIndex, s.held m) + t.held n := by
  rw [← Finset.add_sum_erase _ t.held (Finset.mem_univ n), ← Finset.add_sum_erase _ s.held (Finset.mem_univ n),
    Finset.sum_congr rfl fun m hm => h m (Finset.ne_of_mem_erase hm)]
  ring

theorem State.held_congr {s t : State} {m : ServiceIndex} (h : t.service m = s.service m) : t.held m = s.held m := by
  rw [State.held, State.held, h]

/-- A new map or none, and a record that does not run in the place of one that does not run, move no units. -/
theorem State.held_remapped {s : State} {n : ServiceIndex} {sv : Service} (channels : List ChannelMap)
    (h : (s.service n).lifecycle.running = false) (hsv : sv.lifecycle.running = false) (m : ServiceIndex) :
    ((s.remapped n channels).setService n sv).held m = s.held m := by
  by_cases hm : m = n
  · subst hm
    rw [State.held_of_not_running h, State.held_of_not_running (by rwa [State.service_setService_same])]
  · exact State.held_congr (by rw [State.service_setService_other _ _ hm, State.remapped_service])

theorem State.held_unmapService {s : State} {n : ServiceIndex} (h : (s.service n).lifecycle.running = false)
    (m : ServiceIndex) : (s.unmapService n).held m = s.held m := by
  rw [State.unmapService]
  exact State.held_remapped [] h rfl m

theorem State.unmapService_committed (s : State) (n : ServiceIndex) : (s.unmapService n).committed = s.committed := by
  rw [State.unmapService, State.setService_committed, State.remapped_committed]

/-- A close releases what its service no longer holds (R46). -/
theorem State.held_closeService (s : State) (n : ServiceIndex) :
    (s.closeService n).held n + s.itemReleased (.service n) = s.held n := by
  have hself : (s.closeService n).service n = s.closedService n := by rw [State.closeService_service, if_pos rfl]
  rw [State.itemReleased_service]
  by_cases hr : (s.service n).lifecycle.running = true
  · have hcost : (s.closedService n).cost = (s.service n).cost := by
      rw [State.closedService, if_pos hr]
      exact Service.close_cost _ _ _ _
    rw [State.held_of_running hr]
    rcases State.closedService_lifecycle hr with h | h
    · have hidle : (s.closedService n).lifecycle ≠ .idle := fun he => by rw [he] at h; cases h
      rw [State.held_of_running (by rwa [hself]), hself, hcost, if_neg fun hc => hidle hc.2, Nat.add_zero]
    · rw [State.held_of_not_running (by rw [hself, h]; rfl), if_pos ⟨hr, h⟩, Nat.zero_add]
  · have hsame : s.closedService n = s.service n := if_neg hr
    rw [State.held_congr (hself.trans hsame), if_neg fun hc => hr hc.1, Nat.add_zero]

theorem budgetLaw_holdings : HoldingsLaw State.BudgetLaw where
  same h ht := h.of_held ht.committed fun n => by
    rw [State.held, State.held, (ht.service n).running, (ht.service n).cost]
  mapped h hr _ := h.of_held rfl (State.held_remapped _ hr rfl)
  unmapped h hl := h.of_held (State.unmapService_committed _ _) (State.held_unmapService (by rw [hl]; rfl))
  started := by
    intro s n entry h hl hfit
    obtain ⟨hsum, -⟩ := h
    generalize ht : (s.setService n ((s.service n).started entry)).withCommitted (s.committed + (s.service n).cost) = t
    have hself : t.service n = (s.service n).started entry := by
      rw [← ht, State.withCommitted_service, State.service_setService_same]
    have hother : ∀ m, m ≠ n → t.held m = s.held m := by
      intro m hm
      exact State.held_congr (by rw [← ht, State.withCommitted_service, State.service_setService_other _ _ hm])
    have hcommitted : t.committed = s.committed + (s.service n).cost := by
      rw [← ht, State.withCommitted_committed]
    have hmoved := State.sum_held_of_other hother
    rw [State.held_of_not_running (s := s) (by rw [hl]; rfl), State.held_of_running (s := t) (by rw [hself]; rfl), hself,
      Service.started_cost] at hmoved
    rw [State.BudgetLaw, hcommitted]
    exact ⟨by omega, hfit⟩
  closed := by
    intro s n h
    obtain ⟨hsum, hmax⟩ := h
    have hmoved := State.sum_held_of_other (s := s) (t := s.closeService n) (n := n) fun m hm =>
      State.held_congr (by rw [State.closeService_service, if_neg hm])
    have hreleased := s.held_closeService n
    have hcommitted : (s.closeService n).committed = s.committed - s.itemReleased (.service n) :=
      State.closeItem_committed (fun _ => false) s (.service n)
    rw [State.BudgetLaw, hcommitted]
    exact ⟨by omega, le_trans (Nat.sub_le _ _) hmax⟩
  kept := by
    intro s _
    refine State.budgetLaw_of_idle rfl fun n => ?_
    rw [State.withCommitted_service, State.keptOver_service, Service.afterReset]
    dsimp only
    split <;> rfl
  free := by
    intro s _ hservice hcommitted
    refine State.budgetLaw_of_idle hcommitted fun n => ?_
    obtain ⟨p, hp⟩ := hservice n
    rw [hp]
    rfl

/-- Settles O56: both laws are kept by every way in which a command moves what services hold. -/
theorem slotAndBudgetLawsKept : Obligations.SlotAndBudgetLawsKept :=
  ⟨fun _ _ h => slotLaw_holdings.step (fun _ _ ht => slotLaw_holdings.of_records ht rfl) h,
    fun _ _ h => budgetLaw_holdings.step (fun _ _ ht => budgetLaw_holdings.of_records ht rfl) h⟩

end Sys2Proof.Machine
end

section
/-! PROOF. PEEK of a slot table (R22): O29. -/

namespace Sys2Proof.Machine

/-- The two bytes of a table entry (R22). -/
def entryBytes : Option Owner → Byte × Byte
  | some o => (BitVec.ofNat 8 o.service.val, BitVec.ofNat 8 o.channel.val)
  | none => (0xFF, 0xFF)

theorem tablePage_eq (t : SlotTable) :
    tablePage t = t.toList.flatMap fun o => [(entryBytes o).1, (entryBytes o).2] := by
  unfold tablePage
  congr 1
  funext o
  cases o <;> rfl

theorem length_flatMap_pair {α β : Type} (g h : α → β) (l : List α) :
    (l.flatMap fun a => [g a, h a]).length = 2 * l.length := by
  induction l with
  | nil => rfl
  | cons a l ih =>
    rw [List.flatMap_cons, List.length_append, ih, List.length_cons]
    simp only [List.length_cons, List.length_nil]
    omega

/-- Element `k` of a list of pairs laid out flat stands at `2k` and `2k + 1`. -/
theorem getElem?_flatMap_pair {α β : Type} (g h : α → β) (l : List α) (k : Nat) :
    (l.flatMap fun a => [g a, h a])[2 * k]? = l[k]?.map g ∧
      (l.flatMap fun a => [g a, h a])[2 * k + 1]? = l[k]?.map h := by
  induction l generalizing k with
  | nil => simp
  | cons a l ih =>
    cases k with
    | zero => exact ⟨rfl, rfl⟩
    | succ k => simpa [List.flatMap_cons, Nat.mul_succ] using ih k

theorem tablePage_length (t : SlotTable) : (tablePage t).length = 64 := by
  rw [tablePage_eq, length_flatMap_pair, Vector.length_toList]

theorem tablePage_getElem? (t : SlotTable) (slot : SlotIndex) :
    ((tablePage t)[2 * slot.val]?, (tablePage t)[2 * slot.val + 1]?) =
      (some (entryBytes (t.get slot)).1, some (entryBytes (t.get slot)).2) := by
  have hget : t.toList[slot.val]? = some (t.get slot) := by
    rw [List.getElem?_eq_getElem (by rw [Vector.length_toList]; exact slot.isLt), Vector.getElem_toList]
    rfl
  obtain ⟨hfirst, hsecond⟩ :=
    getElem?_flatMap_pair (fun o => (entryBytes o).1) (fun o => (entryBytes o).2) t.toList slot.val
  rw [tablePage_eq, hfirst, hsecond, hget]
  rfl

theorem peekAct_of_table {f : ControlFrame} {s : State} {id : TableId} (hu : serviceOf f.unit = none)
    (ht : tableOf f.unit = some id) (hp : f.payload = [0]) :
    peekAct f s = (s, Answer.ok (tablePage (s.table id))) := by
  simp [peekAct, pageOf, hp, hu, ht]

/-- Settles O29: the page is `tablePage`, whose bytes stand two by two. -/
theorem peekSlotTable : Obligations.PeekSlotTable := by
  intro s f rest table h hp hunit
  obtain ⟨id, hu, ht, rfl⟩ :
      ∃ id, serviceOf f.unit = none ∧ tableOf f.unit = some id ∧ table = s.table id := by
    rcases hunit with ⟨hf, rfl⟩ | ⟨hf, rfl⟩ | ⟨hf, rfl⟩ <;> rw [hf]
    · exact ⟨.portA, rfl, rfl, rfl⟩
    · exact ⟨.portB, rfl, rfl, rfl⟩
    · exact ⟨.output, rfl, rfl, rfl⟩
  have hact : peekAct f s.dequeued = (s.dequeued, Answer.ok (tablePage (s.table id))) := by
    rw [peekAct_of_table hu ht hp]
    cases id <;> rfl
  refine ⟨tablePage (s.table id), congrArg Host.Outcome.next (serve_answered h hact rfl rfl), tablePage_length _,
    fun slot => ?_⟩
  rw [tablePage_getElem?]
  cases (s.table id).get slot <;> rfl

end Sys2Proof.Machine
end

section
/-! PROOF. What one frame of the fast path leaves of the units (R21, R60, R62, R116, R119, R130 to R133, R140, R152): O9. -/

namespace Sys2Proof.Machine

theorem Service.rawFeed_eq (sv : Service) (a b : Slots) (feed : Feed) :
    sv.rawFeed a b feed =
      sv.map.map fun ch =>
        match feed, ch.reserve with
        | .main, _ => (a.get ch.main).toInt
        | .reserve, some slot => (b.get slot).toInt
        | .reserve, none => 0 := by
  cases feed with
  | main => rfl
  | reserve =>
    refine List.map_congr_left fun ch _ => ?_
    cases ch.reserve <;> rfl

theorem Crossfade.next_eq (cf : Crossfade) :
    cf.next = if cf.position < 479 then some { cf with position := cf.position + 1 } else none := by
  unfold Crossfade.next
  exact if_congr (by show _ + 1 < 480 ↔ _; omega) rfl rfl

theorem FadeState.next_eq (fade : FadeState) :
    fade.next =
      match fade with
      | .none => .none
      | .fadeIn k => if k < 479 then .fadeIn (k + 1) else .none
      | .fadeOut k => if k < 479 then .fadeOut (k + 1) else .silent
      | .silent => .silent := by
  cases fade with
  | none | silent => rfl
  | fadeIn k | fadeOut k => exact if_congr (by show _ + 1 < 480 ↔ _; omega) rfl rfl

/-! ### The limiter at a frame (R119, R130, R132) -/

/-- The limiter with a pending fade taken up at the first frame of a subblock (R130). -/
def Limiter.entering (l : Limiter) (i : Nat) : Limiter :=
  if i = 0 then l.fadeTakenUp else l

theorem Limiter.fadeTakenUp_fade (l : Limiter) :
    l.fadeTakenUp.fade =
      match l.pendingFade with
      | some .fadeIn => .fadeIn 0
      | some .fadeOut => if l.fade = .silent then .silent else .fadeOut 0
      | none => l.fade := by
  rcases l with ⟨_, _, _, _, _, _, _, _, _ | _ | _⟩ <;> rfl

/-- Taking up a fade leaves the counts alone, and no fade pending at the first frame. -/
theorem Limiter.entering_fields (l : Limiter) (i : Nat) :
    (l.entering i).clips = l.clips ∧ (l.entering i).totalClips = l.totalClips ∧
      (l.entering i).pendingFade = if i = 0 then none else l.pendingFade := by
  unfold Limiter.entering
  split
  · rw [Limiter.fadeTakenUp_eq]
    exact ⟨rfl, rfl, rfl⟩
  · exact ⟨rfl, rfl, rfl⟩

/-- Limiting leaves the fade and the counts alone. -/
theorem Limiter.limit_fields (l : Limiter) (i : Nat) (cp release : Int) (us : List Int) :
    (l.limit i cp release us).1.fade = l.fade ∧ (l.limit i cp release us).1.clips = l.clips ∧
      (l.limit i cp release us).1.totalClips = l.totalClips ∧
      (l.limit i cp release us).1.pendingFade = l.pendingFade := by
  rw [Limiter.limit_eq]
  exact ⟨rfl, rfl, rfl, rfl⟩

/-- A clip is a sample beyond 24 bits (R132, R133). -/
theorem saturate_ne (v : Int) : (saturate v != v) = decide (v < -8388608 ∨ 8388607 < v) := by
  rw [Bool.eq_iff_iff, bne_iff_ne, decide_eq_true_eq, saturate_eq]
  omega

theorem map_saturate (vs : List Int) : vs.map saturate = vs.map fun v => max (-8388608) (min 8388607 v) :=
  List.map_congr_left fun v _ => saturate_eq v

theorem filter_saturate (vs : List Int) :
    (vs.filter fun v => saturate v != v) = vs.filter fun v => decide (v < -8388608 ∨ 8388607 < v) :=
  List.filter_congr fun v _ => saturate_ne v

/-! ### One frame of a service -/

section
variable (sv : Service) (i : Nat) (a b : Slots)

/-- The gained samples of a frame (R116). -/
def Service.gainedFeed : List Int :=
  (sv.selected a b).map (gained (rampGain sv.gain.rampStart sv.gain.rampEnd i))

/-- The limiter after a frame, before the fade, and the limited samples (R119). -/
def Service.limitedFeed : Limiter × List Int :=
  (sv.lim.entering i).limit (i % 16) sv.profile.peakCeiling sv.profile.release (sv.gainedFeed i a b)

theorem Service.fastPath_meas : (sv.fastPath i a b).1.meas = sv.meas.tap i (sv.gainedFeed i a b) := rfl

theorem Service.fastPath_lim :
    (sv.fastPath i a b).1.lim = ((sv.limitedFeed i a b).1.finish (sv.limitedFeed i a b).2).1 := rfl

theorem Service.fastPath_out :
    (sv.fastPath i a b).2 = ((sv.limitedFeed i a b).1.finish (sv.limitedFeed i a b).2).2 := rfl

/-- What limiting leaves of the limiter as it entered the frame. -/
theorem Service.limitedFeed_fields :
    (sv.limitedFeed i a b).1.fade = (sv.lim.entering i).fade ∧ (sv.limitedFeed i a b).1.clips = sv.lim.clips ∧
      (sv.limitedFeed i a b).1.totalClips = sv.lim.totalClips ∧
      (sv.limitedFeed i a b).1.pendingFade = if i = 0 then none else sv.lim.pendingFade := by
  obtain ⟨hfade, hclips, htotal, hpending⟩ :=
    (sv.lim.entering i).limit_fields (i % 16) sv.profile.peakCeiling sv.profile.release (sv.gainedFeed i a b)
  obtain ⟨hclips0, htotal0, hpending0⟩ := sv.lim.entering_fields i
  exact ⟨hfade, hclips.trans hclips0, htotal.trans htotal0, hpending.trans hpending0⟩

end

/-- Settles O9: unit by unit, the stages of `Service.fastPath`. -/
theorem fastPathUnits : Obligations.FastPathUnits := by
  intro sv i a b after out h raw
  have hraw : raw = sv.rawFeed a b := funext fun feed => (sv.rawFeed_eq a b feed).symm
  clear_value raw
  subst hraw
  obtain rfl : (sv.fastPath i a b).1 = after := congrArg Prod.fst h
  obtain rfl : (sv.fastPath i a b).2 = out := congrArg Prod.snd h
  obtain ⟨hfade, hclips, htotal, hpending⟩ := sv.limitedFeed_fields i a b
  refine ⟨sv.selected a b, sv.gainedFeed i a b, (sv.limitedFeed i a b).2, (sv.limitedFeed i a b).1, ?selected, rfl, rfl,
    ?after, ?filters, ?accums, fun m hm => ?main, fun m hm => ?reserve, ?crossfade, (sv.lim.entering i).fade, ?taken,
    ?fade, ?out, ?clips, ?total⟩
  case selected =>
    unfold Service.selected
    cases sv.feeds.crossfade <;> rfl
  case after =>
    rw [← hpending]
    rfl
  case filters =>
    rw [Service.fastPath_meas]
    exact List.map_zipWith
  case accums =>
    rw [Service.fastPath_meas, Measurement.tap]
    simp only [List.zipWith_map_right, ← List.map_zipWith (f := Prod.fst)]
    rfl
  case main => exact ⟨_, congrArg (Option.map _) hm, rfl⟩
  case reserve => exact ⟨_, congrArg (Option.map _) hm, rfl⟩
  case crossfade =>
    show sv.feeds.crossfade.bind Crossfade.next = _
    cases sv.feeds.crossfade with
    | none => rfl
    | some cf => exact cf.next_eq
  case taken =>
    unfold Limiter.entering
    split
    · exact sv.lim.fadeTakenUp_fade
    · rfl
  case fade =>
    rw [Service.fastPath_lim, ← hfade]
    exact FadeState.next_eq _
  case out =>
    rw [Service.fastPath_out, ← hfade]
    exact map_saturate _
  case clips =>
    rw [Service.fastPath_lim, ← hfade, ← hclips, ← filter_saturate]
    rfl
  case total =>
    rw [Service.fastPath_lim, ← hfade, ← htotal, ← filter_saturate]
    rfl

end Sys2Proof.Machine
end

section
/-! PROOF. The state after reset keeps every law: O54. -/

namespace Sys2Proof.Machine

/-- A part before its first power-on (log 8). -/
def State.unpowered : State :=
  { State.reset with pins := { State.reset.pins with supplyGood := false } }

/-- The reset state ends the start-up of a first power-on, so a law that every start-up ends in holds of it. -/
theorem State.reset_of_startUp {P : State → Prop}
    (h : ∀ (s : State) (rate1 rate0 : PinLevel) (age : Option Rat),
      P ((s.startCleared .power rate1 rate0 age).autostarted .power)) : P State.reset := by
  have hreset : powerOn .low .low (some 0) State.unpowered = State.reset := powerOn_of_blank rfl rfl rfl rfl rfl
  rw [← hreset, powerOn_of_dark rfl rfl]
  exact h _ _ _ _

theorem State.reset_service (n : ServiceIndex) : State.reset.service n = Service.factory :=
  Vector.get_replicate _ _ n

theorem Profile.factory_valid : Profile.factory.Valid := by
  unfold Profile.Valid
  decide

theorem Service.factory_lifecycleLaw : Service.factory.LifecycleLaw := by
  unfold Service.LifecycleLaw
  decide

theorem Service.factory_feedLaw : Service.factory.FeedLaw := by
  unfold Service.FeedLaw
  decide

theorem Service.factory_gainLaw : Service.factory.GainLaw :=
  ⟨Profile.factory_valid, fun _ hp => (by cases hp), by decide, by decide, by decide +kernel⟩

theorem Service.factory_histogramLaw : Service.factory.integ.HistogramLaw := by
  have hbins : Service.factory.integ.bins.toList = List.replicate 800 0 := Vector.toList_replicate
  unfold Integration.HistogramLaw
  rw [hbins]
  refine ⟨fun k hk => ?_, Nat.zero_le _, fun _ => ?_⟩
  · rw [List.eq_of_mem_replicate hk]
    exact Nat.zero_le _
  · rw [List.sum_replicate]
    rfl

theorem Service.factory_limiterLaw (frame : Nat) : Service.factory.LimiterLaw frame :=
  ⟨fun hv => absurd rfl hv, Profile.factory_valid, fun _ hp => (by cases hp),
    fun _ hk => (by rcases hk with hk | hk <;> cases hk), fun hr => (by cases hr)⟩

/-- Settles O54: the laws that a start-up ends in hold of the reset state as of any start-up; the others are read off its
records. -/
theorem resetStateKeepsTheLaws : Obligations.ResetStateKeepsTheLaws := by
  refine ⟨State.reset_of_startUp fun s => s.startCleared_timebaseLaw .power,
    State.reset_of_startUp fun s => slotLaw_holdings.startUp s .power,
    State.reset_of_startUp fun s => budgetLaw_holdings.startUp s .power, ?control, ?notices, fun n => ?service⟩
  case control => exact ⟨Nat.zero_le _, Nat.zero_le _, fun _ => Nat.zero_le _⟩
  case notices => exact List.nodup_singleton _
  case service =>
    rw [State.reset_service]
    exact ⟨Service.factory_lifecycleLaw, Service.factory_feedLaw, Service.factory_gainLaw, Service.factory_histogramLaw,
      Service.factory_limiterLaw _⟩

end Sys2Proof.Machine
end

section
/-! PROOF. A profile is read back from the payload that carries it (R93, R94, R96). -/

namespace Sys2Proof.Machine

/-! ### Fields of some bytes (9.2) -/

theorem beBytes_succ (n : Nat) (v : Int) : beBytes (n + 1) v = beBytes n (v / 256) ++ [BitVec.ofInt 8 v] := by
  unfold beBytes
  rw [List.range_succ, List.map_append, List.map_singleton]
  refine congrArg₂ (· ++ ·) (List.map_congr_left fun i hi => ?_) (by simp)
  have hi : i < n := List.mem_range.mp hi
  obtain ⟨k, rfl⟩ := Nat.exists_eq_add_of_lt hi
  have hexp : i + k + 1 + 1 - 1 - i = (k + 1) := by omega
  have hexp' : i + k + 1 - 1 - i = k := by omega
  rw [hexp, hexp', pow_succ', Int.ediv_ediv_of_nonneg (by decide)]

theorem beNat_append (bytes : List Byte) (b : Byte) : beNat (bytes ++ [b]) = beNat bytes * 256 + b.toNat := by
  rw [beNat, List.foldl_append]
  rfl

/-- The bytes of a number are read as the number modulo their range. -/
theorem beNat_beBytes (n : Nat) (v : Int) : (beNat (beBytes n v) : Int) = v % 256 ^ n := by
  induction n generalizing v with
  | zero => simp [beBytes, beNat]
  | succ n ih =>
    have hlow : ((BitVec.ofInt 8 v).toNat : Int) = v % 256 := by
      rw [BitVec.toNat_ofInt]
      omega
    rw [beBytes_succ, beNat_append, Nat.cast_add, Nat.cast_mul, ih, hlow, pow_succ', Nat.cast_ofNat]
    have hpos : (0 : Int) < 256 ^ n := by positivity
    have hquot : v / (256 * 256 ^ n) = v / 256 / 256 ^ n := (Int.ediv_ediv_of_nonneg (by decide)).symm
    have h1 := Int.emod_add_mul_ediv v 256
    have h2 := Int.emod_add_mul_ediv (v / 256) (256 ^ n)
    have h3 := Int.emod_add_mul_ediv v (256 * 256 ^ n)
    rw [hquot] at h3
    linear_combination h1 + 256 * h2 - h3

theorem beNat_beBytes_of_range {n : Nat} {v : Int} (h0 : 0 ≤ v) (h1 : v < 256 ^ n) : (beNat (beBytes n v) : Int) = v := by
  rw [beNat_beBytes, Int.emod_eq_of_lt h0 h1]

theorem beInt_beBytes {n : Nat} {v : Int} (h0 : -256 ^ n ≤ 2 * v) (h1 : 2 * v < 256 ^ n) : beInt (beBytes n v) = v := by
  have hpow : (0 : Int) < 256 ^ n := by positivity
  have hread := beNat_beBytes n v
  have hbound : 2 * beNat (beBytes n v) < 256 ^ n ↔ (2 * (v % 256 ^ n) : Int) < 256 ^ n := by
    rw [← hread]
    exact_mod_cast Iff.rfl
  unfold beInt
  rw [beBytes_length]
  rcases lt_or_ge v 0 with hneg | hpos
  · have hmod : v % 256 ^ n = v + 256 ^ n := by
      rw [← Int.add_emod_right, Int.emod_eq_of_lt (by omega) (by omega)]
    rw [if_neg (by rw [hbound, hmod]; omega), hread, hmod]
    omega
  · have hmod : v % 256 ^ n = v := Int.emod_eq_of_lt hpos (by omega)
    rw [if_pos (by rw [hbound, hmod]; omega), hread, hmod]

/-! ### The profile table (R93) -/

/-- A value within a field's range. -/
def FieldSpec.InRange (f : FieldSpec) (v : Int) : Prop :=
  f.lo ≤ v ∧ v ≤ f.hi

/-- A field whose range its bytes can carry. -/
def FieldSpec.Carries (f : FieldSpec) : Prop :=
  if f.signed then -256 ^ f.bytes ≤ 2 * f.lo ∧ 2 * f.hi < 256 ^ f.bytes else 0 ≤ f.lo ∧ f.hi < 256 ^ f.bytes

theorem profileTable_carries : ∀ f ∈ profileTable, f.Carries := by
  unfold FieldSpec.Carries
  decide

/-- The bytes of field values in table order (R93). -/
def fieldBytes (table : List FieldSpec) (values : List Int) : List Byte :=
  (List.zipWith (fun f v => beBytes f.bytes v) table values).flatten

theorem parseFields_fieldBytes {table : List FieldSpec} (hc : ∀ f ∈ table, f.Carries) {values : List Int}
    (h : List.Forall₂ FieldSpec.InRange table values) : parseFields table (fieldBytes table values) = values := by
  induction h with
  | nil => rfl
  | @cons f v table values hv h ih =>
    obtain ⟨hf, htable⟩ := List.forall_mem_cons.mp hc
    obtain ⟨hlo, hhi⟩ := hv
    have hbytes : fieldBytes (f :: table) (v :: values) = beBytes f.bytes v ++ fieldBytes table values := rfl
    have hlen := beBytes_length f.bytes v
    rw [parseFields, hbytes, List.take_left' hlen, List.drop_left' hlen, ih htable]
    refine congrArg (· :: values) ?_
    unfold FieldSpec.Carries at hf
    split
    · next hs =>
      obtain ⟨h1, h2⟩ := (if_pos hs).mp hf
      exact beInt_beBytes (by omega) (by omega)
    · next hs =>
      obtain ⟨h1, h2⟩ := (if_neg hs).mp hf
      exact beNat_beBytes_of_range (by omega) (by omega)

theorem firstOutOfRange_of_inRange {table : List FieldSpec} {values : List Int}
    (h : List.Forall₂ FieldSpec.InRange table values) (index : Nat) : firstOutOfRange index table values = none := by
  induction h generalizing index with
  | nil => rfl
  | cons hv h ih =>
    obtain ⟨hlo, hhi⟩ := hv
    rw [firstOutOfRange, if_pos ⟨hlo, hhi⟩]
    exact ih _

theorem Profile.Valid.fields {p : Profile} (h : p.Valid) : List.Forall₂ FieldSpec.InRange profileTable p.fields := by
  unfold Profile.Valid at h
  simp only [profileTable, Profile.fields, FieldSpec.InRange, List.forall₂_cons, List.forall₂_nil_left_iff, and_true]
  have hbit : ∀ b : Bool, (0 : Int) ≤ (if b then 1 else 0) ∧ (if b then 1 else 0 : Int) ≤ 1 := by decide
  refine ⟨?_, ?_, ?_, ?_, ?_, ?_, ?_, ?_, ?_, ?_, ?_, ?_, ?_, hbit _, ?_, ?_, hbit _⟩ <;> omega

theorem profileOfFields_fields (p : Profile) : profileOfFields p.fields = p := by
  have hbit : ∀ b : Bool, ((if b then 1 else 0 : Int) != 0) = b := by decide
  have hread : profileOfFields p.fields =
      { p with
        autoReturn := (if p.autoReturn then 1 else 0 : Int) != 0
        autostart := (if p.autostart then 1 else 0 : Int) != 0 } := rfl
  rw [hread, hbit, hbit]

theorem Profile.Valid.accepted {p : Profile} (h : p.Valid) : p.accepted = p := by
  have hgain : clampTo p.gainFloor p.gainCeiling p.initialGain = p.initialGain := by
    unfold Profile.Valid at h
    rw [clampTo_eq _ _ _ (by omega)]
    omega
  rw [Profile.accepted, hgain]

/-- A valid profile is read back from its payload (R93, R94, R96). -/
theorem profileOfPayload_payload {p : Profile} (h : p.Valid) : profileOfPayload p.payload = .ok p := by
  have hparse : parseFields profileTable p.payload = p.fields := parseFields_fieldBytes profileTable_carries h.fields
  simp only [profileOfPayload, hparse, firstOutOfRange_of_inRange h.fields, profileOfFields_fields, h.accepted]

end Sys2Proof.Machine
end

section
/-! PROOF. What a Store wrote comes back at the next start-up (R34, R184, R187): O48. -/

namespace Sys2Proof.Machine

/-! ### Maps in force -/

theorem Service.channels_le (sv : Service) : sv.channels ≤ 6 := by
  unfold Service.channels
  cases sv.layout with
  | none => exact Nat.zero_le _
  | some layout => exact layout.channels_le

section
variable {s : State} (h : s.SlotLaw)
include h

/-- A slot that a map in force names is owned by its channel (R20). -/
theorem State.SlotLaw.owner_of_channel {n : ServiceIndex} {c : Nat} {ch : ChannelMap} {t : TableId} {slot : SlotIndex}
    (hch : (s.service n).map[c]? = some ch) (hslot : ch.slotIn t = some slot) :
    ∃ o : Owner, s.owner t slot = some o ∧ o.service = n ∧ o.channel.val = c := by
  obtain ⟨howners, hmaps⟩ := State.slotLaw_iff.mp h
  obtain ⟨-, hlength, -⟩ := hmaps n
  have hc : c < 6 := by
    obtain ⟨hlt, -⟩ := List.getElem?_eq_some_iff.mp hch
    have := (s.service n).channels_le
    omega
  exact ⟨⟨n, ⟨c, hc⟩⟩, (howners t slot ⟨n, ⟨c, hc⟩⟩).mpr ⟨ch, hch, hslot⟩, rfl, rfl⟩

/-- A map in force fits where every slot of another service is owned as the part has it (R25 to R27). -/
theorem State.SlotLaw.mapFits {n : ServiceIndex} {layout : Layout} (hlayout : (s.service n).layout = some layout)
    {owner : TableId → SlotIndex → Option Owner}
    (howner : ∀ t slot o, owner t slot = some o → o.service ≠ n → s.owner t slot = some o) :
    MapFits owner n layout (s.service n).map := by
  obtain ⟨-, hmaps⟩ := State.slotLaw_iff.mp h
  obtain ⟨-, hlength, hreserve⟩ := hmaps n
  refine ⟨by rw [hlength, Service.channels, hlayout]; rfl, fun a ha b hb => (hreserve a ha).trans (hreserve b hb).symm,
    fun t slot i j a b ha hb hsa hsb => ?_, fun t slot a o ha hslot ho => ?_⟩
  · obtain ⟨o, ho, -, hi⟩ := h.owner_of_channel ha hsa
    obtain ⟨o', ho', -, hj⟩ := h.owner_of_channel hb hsb
    rw [← hi, ← hj, Option.some.inj (ho.symm.trans ho')]
  · by_contra hne
    obtain ⟨c, hc⟩ := List.mem_iff_getElem?.mp ha
    obtain ⟨o', ho', hn, -⟩ := h.owner_of_channel hc hslot
    rw [howner t slot o ho hne] at ho'
    exact hne (Option.some.inj ho' ▸ hn)

/-- Parts with the same maps have the same owners (R20). -/
theorem State.SlotLaw.owner_eq {t : State} (ht : t.SlotLaw) (hmap : ∀ n, (t.service n).map = (s.service n).map) :
    t.owner = s.owner := by
  obtain ⟨howners, -⟩ := State.slotLaw_iff.mp h
  obtain ⟨howners', -⟩ := State.slotLaw_iff.mp ht
  funext id slot
  refine Option.ext fun o => ?_
  rw [howners, howners', State.Names, State.Names, hmap]

end

/-! ### Maps after a load -/

/-- The owners of slots among the services before `n` (R34). -/
def State.ownerBefore (t : State) (n : ServiceIndex) (id : TableId) (slot : SlotIndex) : Option Owner :=
  (t.owner id slot).filter fun o => decide (o.service < n)

theorem State.mapLoaded_none {t : State} {n : ServiceIndex} (h : t.MapLoaded n none) :
    (t.service n).lifecycle = .vacant ∧ (t.service n).layout = none ∧ (t.service n).map = [] ∧
      (t.service n).cost = 0 := h

theorem State.mapLoaded_ok {t : State} {n : ServiceIndex} {payload : List Byte} {layout : Layout}
    {channels : List ChannelMap} (h : t.MapLoaded n (some payload))
    (hc : checkMap (t.ownerBefore n) n payload = .ok (layout, channels)) :
    (t.service n).lifecycle = .idle ∧ (t.service n).layout = some layout ∧ (t.service n).map = channels ∧
      (t.service n).cost = (if ∀ ch ∈ channels, ch.reserve.isSome = true then 4 else 3) * layout.channels := by
  change checkMap (fun id slot => (t.owner id slot).filter fun o => decide (o.service < n)) n payload = _ at hc
  simp only [State.MapLoaded, Option.map_some, hc] at h
  exact h

section
variable {s t : State} (hs : s.SlotLaw) (ht : t.SlotLaw)
  (hload : ∀ n, t.MapLoaded n ((s.service n).layout.map fun layout => mapPayload layout (s.service n).map))
include hs ht hload

/-- Every stored map is loaded again, as those before it were (R34). -/
theorem State.loaded_map (n : ServiceIndex) :
    (t.service n).layout = (s.service n).layout ∧ (t.service n).map = (s.service n).map ∧
      ∀ layout, (s.service n).layout = some layout →
        (t.service n).cost =
          (if ∀ ch ∈ (s.service n).map, ch.reserve.isSome = true then 4 else 3) * layout.channels := by
  induction n using WellFoundedLT.induction with
  | ind n ih =>
    have hn := hload n
    cases hlayout : (s.service n).layout with
    | none =>
      obtain ⟨-, hmaps⟩ := State.slotLaw_iff.mp hs
      obtain ⟨-, hlength, -⟩ := hmaps n
      rw [hlayout] at hn
      obtain ⟨-, hl, hm, -⟩ := State.mapLoaded_none hn
      rw [Service.channels, hlayout] at hlength
      exact ⟨hl, hm.trans (List.eq_nil_of_length_eq_zero hlength).symm, fun _ hx => by cases hx⟩
    | some layout =>
      rw [hlayout, Option.map_some] at hn
      have hbefore : ∀ id slot o, t.ownerBefore n id slot = some o → o.service ≠ n → s.owner id slot = some o := by
        intro id slot o ho _
        obtain ⟨ho, hlt⟩ := Option.filter_eq_some_iff.mp ho
        obtain ⟨-, hm, -⟩ := ih o.service (of_decide_eq_true hlt)
        obtain ⟨ch, hch, hslot⟩ := ((State.slotLaw_iff.mp ht).1 id slot o).mp ho
        exact ((State.slotLaw_iff.mp hs).1 id slot o).mpr ⟨ch, hm ▸ hch, hslot⟩
      have hcheck : checkMap (t.ownerBefore n) n (mapPayload layout (s.service n).map) =
          .ok (layout, (s.service n).map) :=
        (mapChecksAcceptExactly _ _ _ _ _).mpr ⟨rfl, hs.mapFits hlayout hbefore⟩
      obtain ⟨-, hl, hm, hcost⟩ := State.mapLoaded_ok hn hcheck
      refine ⟨hl, hm, fun layout' hx => ?_⟩
      cases hx
      exact hcost

end

/-- In a map in force the reserve is mapped exactly when every channel has one (R23). -/
theorem State.SlotLaw.reserveMapped_iff {t : State} (h : t.SlotLaw) {n : ServiceIndex} {layout : Layout}
    (hlayout : (t.service n).layout = some layout) :
    (∀ ch ∈ (t.service n).map, ch.reserve.isSome = true) ↔ (t.service n).reserveMapped = true := by
  obtain ⟨-, hmaps⟩ := State.slotLaw_iff.mp h
  obtain ⟨-, hlength, hreserve⟩ := hmaps n
  refine ⟨fun hall => ?_, fun hr ch hch => (hreserve ch hch).trans hr⟩
  have hpos : 0 < (t.service n).map.length := by
    rw [hlength, Service.channels, hlayout]
    exact layout.channels_pos
  have hmem := List.getElem_mem hpos
  exact (hreserve _ hmem).symm.trans (hall _ hmem)

/-- VACANT goes with having no map, so parts with the same layouts have the same VACANT services (R20). -/
theorem State.SlotLaw.vacant_iff {s t : State} (hs : s.SlotLaw) (ht : t.SlotLaw) {n : ServiceIndex}
    (h : (t.service n).layout = (s.service n).layout) :
    (t.service n).lifecycle = .vacant ↔ (s.service n).lifecycle = .vacant := by
  obtain ⟨hv, -⟩ := (State.slotLaw_iff.mp hs).2 n
  obtain ⟨hv', -⟩ := (State.slotLaw_iff.mp ht).2 n
  rw [hv, hv', h]

/-- Autostart leaves map, cost and profile of every service alone (R55). -/
theorem State.autostarted_fields (s : State) (cause : ResetCause) (n : ServiceIndex) {sv : Service}
    (h : (s.autostarted cause).service n = sv) :
    sv.layout = (s.service n).layout ∧ sv.map = (s.service n).map ∧ sv.reserveMapped = (s.service n).reserveMapped ∧
      sv.cost = (s.service n).cost ∧ sv.profile = (s.service n).profile := by
  rcases s.autostarted_service cause n with hsv | ⟨-, -, hsv⟩ <;> rw [hsv] at h <;> subst h <;>
    exact ⟨rfl, rfl, rfl, rfl, rfl⟩

theorem State.snapshot_service (s : State) (n : ServiceIndex) : s.snapshot.services.get n = (s.service n).stored :=
  Vector.get_ofFn _ n

/-- Settles O48: the load applies each stored map to owners that are those of the part, and autostart moves none of it. -/
theorem storedConfigurationComesBack : Obligations.StoredConfigurationComesBack := by
  intro s u rate1 rate0 age hs hprofiles hlimits hflash hsupply hheld
  have hexec : exec (.resetPinRelease rate1 rate0 age) u =
      .next ((u.startCleared .pin rate1 rate0 age).autostarted .pin) := by
    rw [exec_resetPinRelease, resetPinRelease_of_held hsupply hheld]
  have hcleared : (u.startCleared .pin rate1 rate0 age).SlotLaw := slotLaw_holdings.startCleared u .pin rate1 rate0 age
  have hended := slotLaw_holdings.startUp u .pin rate1 rate0 age
  have hloaded : (u.startCleared .pin rate1 rate0 age).LoadedFrom u.flash := u.released.reloaded_loadedFrom
  generalize u.startCleared .pin rate1 rate0 age = cleared at hexec hcleared hended hloaded
  simp only [hflash, State.LoadedFrom, if_true] at hloaded
  obtain ⟨hstatus, hmask, hlimit, hservices⟩ := hloaded
  have hmap := State.loaded_map hs hcleared fun n => by
    obtain ⟨-, hn⟩ := hservices n
    rwa [State.snapshot_service] at hn
  have hfields := fun n => cleared.autostarted_fields .pin n rfl
  refine ⟨cleared.autostarted .pin, hexec, ?owner, (State.autostarted_mask ..).trans hmask,
    (State.autostarted_storeStatus ..).trans hstatus, fun p => ?limit, fun n => ?service⟩
  case owner =>
    rw [State.autostarted_owner]
    exact hs.owner_eq hcleared fun n => (hmap n).2.1
  case limit =>
    rw [State.autostarted_receiver, hlimit p]
    cases p
    · exact if_pos (hlimits .a)
    · exact if_pos (hlimits .b)
  case service =>
    obtain ⟨hlayout, hmapn, hreserve, hcost, hprofile⟩ := hfields n
    obtain ⟨hlayout0, hmap0, hcost0⟩ := hmap n
    obtain ⟨hprofile0, -⟩ := hservices n
    rw [State.snapshot_service] at hprofile0
    refine ⟨hlayout.trans hlayout0, hmapn.trans hmap0, ?_, hs.vacant_iff hended (hlayout.trans hlayout0),
      fun layout hl => ?_⟩
    · rw [hprofile, hprofile0]
      simp only [Service.stored, profileOfPayload_payload (hprofiles n)]
    · rw [hcost, hcost0 layout hl, hreserve, ← hmap0]
      simp only [hcleared.reserveMapped_iff (hlayout0.trans hl)]

end Sys2Proof.Machine
end

section
/-! PROOF. The close of a service by the state that it reads and the feed decision that it takes: the lifecycle state, resume
state, close phase and pending fade that it leaves (R43 to R46, R52), its ring (R64, R65), and its STATE raise (R47). -/

namespace Sys2Proof.Machine

/-! ### The record between feed stage and lifecycle stage -/

/-- Whether a close appends to the ring (R64). -/
def Service.appends (sv : Service) : Bool :=
  sv.lifecycle.measuring && !sv.entryMarker

/-- Whether a close makes a feed stage (R144). -/
def Service.decides (sv : Service) : Bool :=
  (sv.lifecycle.measuring || sv.lifecycle == .dropped) && !sv.entryMarker

/-- The record that a close decides on: its levels, silent runs and main-good run are formed (R144). -/
def Service.monitored (sv : Service) (a b : Bool) (w : Word32) : Service :=
  let reported :=
    (((sv.profileStage.measurementStage sv.appends w).integrationStage sv.appends sv.decides).gainStage sv.lifecycle
      sv.entryMarker sv.gain.g).limiterStage
  if sv.decides then reported.monitorsClosed a b else reported.monitorsDiscarded

/-- The feed decision of a close (R144). -/
def Service.decision (sv : Service) (a b : Bool) (w : Word32) : FeedDecision :=
  if sv.decides then (sv.monitored a b w).feedDecision sv.lifecycle a b else .stay

/-- The record after the feed stage, which the lifecycle stage takes. -/
def Service.decided (sv : Service) (a b : Bool) (w : Word32) : Service :=
  { sv.monitored a b w with feeds := (sv.monitored a b w).feeds.decided (sv.decision a b w) }

theorem Service.close_service (sv : Service) (a b : Bool) (w : Word32) :
    (sv.close a b w).service =
      { (sv.decided a b w).lifecycleStage sv.lifecycle sv.appends (sv.decision a b w) with entryMarker := false } := rfl

section
variable (sv : Service) (a b : Bool) (w : Word32)

@[simp] theorem Service.decided_lifecycle : (sv.decided a b w).lifecycle = sv.lifecycle := by
  unfold Service.decided Service.monitored; dsimp only; split <;> simp

@[simp] theorem Service.decided_resume : (sv.decided a b w).resume = sv.resume := by
  unfold Service.decided Service.monitored; dsimp only; split <;> simp

@[simp] theorem Service.decided_haltPhase : (sv.decided a b w).haltPhase = sv.haltPhase := by
  unfold Service.decided Service.monitored; dsimp only; split <;> simp

@[simp] theorem Service.decided_layout : (sv.decided a b w).layout = sv.layout := by
  unfold Service.decided Service.monitored; dsimp only; split <;> simp

@[simp] theorem Service.decided_channels : (sv.decided a b w).channels = sv.channels := by
  rw [Service.channels, Service.decided_layout, Service.channels]

@[simp] theorem Service.decided_pendingFade : (sv.decided a b w).lim.pendingFade = sv.lim.pendingFade := by
  unfold Service.decided Service.monitored; dsimp only; split <;> simp [Service.limiterStage]

theorem Service.decided_feeds :
    (sv.decided a b w).feeds = (sv.monitored a b w).feeds.decided (sv.decision a b w) := rfl

/-- An appending close puts the power of its subblock into the ring, and any other keeps it (R64, R65). -/
theorem Service.decided_ring :
    (sv.decided a b w).meas.ring =
      if sv.appends then ringAppend sv.meas.ring sv.profileStage.power else sv.meas.ring := by
  have hring : (sv.decided a b w).meas = (sv.profileStage.measurementStage sv.appends w).meas := by
    unfold Service.decided Service.monitored; dsimp only; split <;> simp
  rw [hring, Service.measurementStage]
  dsimp only
  split
  · simp [Measurement.appended]
  · simp [Measurement.emptied]

/-! ### The monitors at the decision -/

@[simp] theorem Service.monitored_inUse : (sv.monitored a b w).feeds.inUse = sv.feeds.inUse := by
  unfold Service.monitored; dsimp only; split <;> simp [Service.monitorsClosed, Service.monitorsDiscarded]

@[simp] theorem Service.monitored_mode : (sv.monitored a b w).feeds.mode = sv.feeds.mode := by
  unfold Service.monitored; dsimp only; split <;> simp [Service.monitorsClosed, Service.monitorsDiscarded]

@[simp] theorem Service.monitored_crossfade : (sv.monitored a b w).feeds.crossfade = sv.feeds.crossfade := by
  unfold Service.monitored; dsimp only; split <;> simp [Service.monitorsClosed, Service.monitorsDiscarded]

@[simp] theorem Service.monitored_mainMonitor_isSome :
    (sv.monitored a b w).feeds.mainMonitor.isSome = sv.feeds.mainMonitor.isSome := by
  unfold Service.monitored; dsimp only; split <;> simp [Service.monitorsClosed, Service.monitorsDiscarded]

@[simp] theorem Service.monitored_reserveMonitor_isSome :
    (sv.monitored a b w).feeds.reserveMonitor.isSome = sv.feeds.reserveMonitor.isSome := by
  unfold Service.monitored; dsimp only; split <;> simp [Service.monitorsClosed, Service.monitorsDiscarded]

/-! ### The decision by the state read -/

/-- The decisions that leave the lifecycle state alone: stay and switch (R151). -/
def FeedDecision.KeepsState (d : FeedDecision) : Prop :=
  d = .stay ∨ ∃ dest cause, d = .switch dest cause

theorem decideAuto_cases (p : Profile) (inUse : Feed) (run : Nat) (main reserve : Rank) :
    (decideAuto p inUse run main reserve).KeepsState ∨
      ∃ failed cause, decideAuto p inUse run main reserve = .drop failed cause := by
  unfold decideAuto FeedDecision.KeepsState
  dsimp only
  (repeat' split) <;> simp

theorem decideForced_cases (forced inUse : Feed) (rank : Rank) :
    (decideForced forced inUse rank).KeepsState ∨
      ∃ failed cause, decideForced forced inUse rank = .drop failed cause := by
  unfold decideForced FeedDecision.KeepsState
  (repeat' split) <;> simp

/-- A feed stage in a state that measures never resumes (R148 to R150, R153). -/
theorem Service.feedDecision_of_measuring {l : Lifecycle} (h : l.measuring = true) :
    (sv.feedDecision l a b).KeepsState ∨ ∃ failed cause, sv.feedDecision l a b = .drop failed cause := by
  cases l with
  | vacant | idle | dropped | halting => cases h
  | priming | active | bypass =>
    unfold Service.feedDecision
    dsimp only
    cases sv.feeds.mode with
    | auto => exact decideAuto_cases ..
    | forceMain | forceReserve => exact decideForced_cases ..

/-- The feed stage of a DROPPED service resumes or stays (R154). -/
theorem Service.feedDecision_of_dropped :
    sv.feedDecision .dropped a b = .stay ∨ ∃ taken cause, sv.feedDecision .dropped a b = .resume taken cause := by
  unfold Service.feedDecision exitCheck
  dsimp only
  (repeat' split) <;> simp

theorem Service.decision_of_measuring (h : sv.lifecycle.measuring = true) :
    (sv.decision a b w).KeepsState ∨ ∃ failed cause, sv.decision a b w = .drop failed cause := by
  unfold Service.decision
  split
  · exact Service.feedDecision_of_measuring _ _ _ h
  · exact .inl (.inl rfl)

theorem Service.decision_of_dropped (h : sv.lifecycle = .dropped) :
    sv.decision a b w = .stay ∨ ∃ taken cause, sv.decision a b w = .resume taken cause := by
  unfold Service.decision
  split
  · rw [h]
    exact Service.feedDecision_of_dropped _ _ _
  · exact .inl rfl

theorem Service.decision_of_halting (h : sv.lifecycle = .halting) : sv.decision a b w = .stay := by
  have hnot : sv.decides = false := by simp [Service.decides, h, Lifecycle.measuring]
  simp [Service.decision, hnot]

/-- A running service measures, waits for a feed or halts (3.1). -/
theorem Lifecycle.running_cases {l : Lifecycle} (h : l.running = true) :
    l.measuring = true ∨ l = .dropped ∨ l = .halting := by
  cases l with
  | vacant | idle => cases h
  | priming | active | bypass => exact .inl rfl
  | dropped => exact .inr (.inl rfl)
  | halting => exact .inr (.inr rfl)

theorem Lifecycle.measuring_iff {l : Lifecycle} : l.measuring = true ↔ l = .priming ∨ l = .active ∨ l = .bypass := by
  cases l <;> simp [Lifecycle.measuring]

/-! ### The state that a close reaches, and what its lifecycle stage leaves -/

/-- What a close moves of the lifecycle of a service. -/
structure LifecyclePart where
  lifecycle : Lifecycle
  resume : Option Resume
  haltPhase : Option HaltPhase
  pendingFade : Option PendingFade

def Service.lifecyclePart (sv : Service) : LifecyclePart where
  lifecycle := sv.lifecycle
  resume := sv.resume
  haltPhase := sv.haltPhase
  pendingFade := sv.lim.pendingFade

theorem Service.lifecyclePart_iff {sv : Service} {p : LifecyclePart} :
    sv.lifecyclePart = p ↔
      sv.lifecycle = p.lifecycle ∧ sv.resume = p.resume ∧ sv.haltPhase = p.haltPhase ∧
        sv.lim.pendingFade = p.pendingFade := by
  cases p
  simp [Service.lifecyclePart]

theorem Service.lifecycleStage_ring (l : Lifecycle) (measuring : Bool) (d : FeedDecision) :
    (sv.lifecycleStage l measuring d).meas.ring = sv.meas.ring := by
  unfold Service.lifecycleStage
  dsimp only
  split
  · rw [Service.haltStage_meas]
  all_goals rfl

theorem Service.close_ring :
    (sv.close a b w).service.meas.ring =
      if sv.appends then ringAppend sv.meas.ring sv.profileStage.power else sv.meas.ring :=
  ((sv.decided a b w).lifecycleStage_ring _ _ _).trans (sv.decided_ring a b w)

/-- The state that a close reaches by its ring: ACTIVE when priming completes, and otherwise the state it reads (R43). -/
def Service.reached (sv : Service) (a b : Bool) (w : Word32) : Lifecycle :=
  primedState sv.lifecycle sv.appends (sv.close a b w).service.meas.ring

theorem Service.reached_eq :
    sv.reached a b w =
      if sv.lifecycle = .priming ∧ sv.entryMarker = false ∧ (sv.close a b w).service.meas.ring.length = 30 then .active
      else sv.lifecycle := by
  have hiff : (sv.lifecycle = .priming ∧ sv.appends = true ∧ (sv.close a b w).service.meas.ring.length = 30) ↔
      sv.lifecycle = .priming ∧ sv.entryMarker = false ∧ (sv.close a b w).service.meas.ring.length = 30 := by
    refine and_congr_right fun hl => ?_
    simp [Service.appends, hl, Lifecycle.measuring]
  unfold Service.reached primedState
  simp only [hiff]

theorem Service.reached_cases :
    sv.reached a b w = sv.lifecycle ∨
      sv.lifecycle = .priming ∧ sv.reached a b w = .active ∧ (sv.close a b w).service.meas.ring.length = 30 := by
  rw [Service.reached_eq]
  split
  · next h =>
    obtain ⟨hl, -, hfull⟩ := h
    exact .inr ⟨hl, rfl, hfull⟩
  · exact .inl rfl

theorem Service.reached_measuring (h : sv.lifecycle.measuring = true) : (sv.reached a b w).measuring = true := by
  rcases sv.reached_cases a b w with he | ⟨-, he, -⟩ <;> rw [he]
  · exact h
  · rfl

end

section
variable {sv : Service} {l : Lifecycle} (h : l ≠ .halting)
include h

theorem Service.lifecycleStage_drop (measuring : Bool) (failed : Feed) (cause : FeedCause) :
    sv.lifecycleStage l measuring (.drop failed cause) = sv.dropped (primedState l measuring sv.meas.ring) := by
  cases l with
  | halting => exact absurd rfl h
  | vacant | idle | priming | active | bypass | dropped => rfl

theorem Service.lifecycleStage_resume (measuring : Bool) (taken : Feed) (cause : FeedCause) :
    sv.lifecycleStage l measuring (.resume taken cause) = sv.resumed := by
  cases l with
  | halting => exact absurd rfl h
  | vacant | idle | priming | active | bypass | dropped => rfl

theorem Service.lifecycleStage_stay (measuring : Bool) :
    sv.lifecycleStage l measuring .stay = { sv with lifecycle := primedState l measuring sv.meas.ring } := by
  cases l with
  | halting => exact absurd rfl h
  | vacant | idle | priming | active | bypass | dropped => rfl

theorem Service.lifecycleStage_switch (measuring : Bool) (dest : Feed) (cause : FeedCause) :
    sv.lifecycleStage l measuring (.switch dest cause) =
      { sv with lifecycle := primedState l measuring sv.meas.ring } := by
  cases l with
  | halting => exact absurd rfl h
  | vacant | idle | priming | active | bypass | dropped => rfl

end

section
variable {sv : Service} {a b : Bool} {w : Word32}

theorem Service.reached_eq_primedState :
    sv.reached a b w = primedState sv.lifecycle sv.appends (sv.decided a b w).meas.ring := by
  rw [Service.reached, Service.close_ring, Service.decided_ring]

/-- A close that neither drops nor resumes leaves the state that it reached (R43). -/
theorem Service.close_of_stay (hl : sv.lifecycle ≠ .halting) (hd : (sv.decision a b w).KeepsState) :
    (sv.close a b w).service.lifecyclePart =
      { lifecycle := sv.reached a b w, resume := sv.resume, haltPhase := sv.haltPhase
        pendingFade := sv.lim.pendingFade } := by
  have hstage : (sv.decided a b w).lifecycleStage sv.lifecycle sv.appends (sv.decision a b w) =
      { sv.decided a b w with lifecycle := sv.reached a b w } := by
    rw [Service.reached_eq_primedState]
    rcases hd with hd | ⟨dest, cause, hd⟩ <;> rw [hd]
    · exact Service.lifecycleStage_stay hl _
    · exact Service.lifecycleStage_switch hl _ dest cause
  rw [Service.close_service, hstage]
  simp [Service.lifecyclePart]

/-- A close without feed leaves the service DROPPED, to resume the state that it reached, with a pending fade OUT (R44). -/
theorem Service.close_of_drop (hl : sv.lifecycle ≠ .halting) {failed : Feed} {cause : FeedCause}
    (hd : sv.decision a b w = .drop failed cause) :
    (sv.close a b w).service.lifecyclePart =
      { lifecycle := .dropped, resume := resumeOf (sv.reached a b w), haltPhase := sv.haltPhase
        pendingFade := some .fadeOut } := by
  rw [Service.reached_eq_primedState, Service.close_service, hd, Service.lifecycleStage_drop hl]
  simp [Service.lifecyclePart, Service.dropped]

/-- A close whose feed has returned clears filters, accumulators and queue, and leaves the resume state (R45). -/
theorem Service.close_of_resume (hl : sv.lifecycle ≠ .halting) {taken : Feed} {cause : FeedCause}
    (hd : sv.decision a b w = .resume taken cause) :
    (sv.close a b w).service = { (sv.decided a b w).resumed with entryMarker := false } := by
  rw [Service.close_service, hd, Service.lifecycleStage_resume hl]

variable (a b w)

/-- A close of a HALTING service moves its close phase (R46, R52). -/
theorem Service.close_of_halting (hl : sv.lifecycle = .halting) :
    (sv.close a b w).service = { (sv.decided a b w).haltStage with entryMarker := false } := by
  rw [Service.close_service, hl]
  rfl

theorem Service.close_of_halt (hl : sv.lifecycle = .halting) (hp : sv.haltPhase = some .halt) :
    (sv.close a b w).service.lifecyclePart =
      { lifecycle := .halting, resume := sv.resume, haltPhase := some .fadeOut, pendingFade := some .fadeOut } := by
  rw [Service.close_of_halting a b w hl, Service.haltStage, Service.decided_haltPhase, hp]
  simp [Service.lifecyclePart, hl]

theorem Service.close_of_fadeOut (hl : sv.lifecycle = .halting) (hp : sv.haltPhase = some .fadeOut) :
    (sv.close a b w).service.lifecyclePart =
      { lifecycle := .idle, resume := sv.resume, haltPhase := none, pendingFade := sv.lim.pendingFade } := by
  rw [Service.close_of_halting a b w hl, Service.haltStage, Service.decided_haltPhase, hp]
  simp [Service.lifecyclePart]

/-- A halt keeps the feed in use, and its last close ends a crossfade (R46, R52, R161). -/
theorem Service.close_feeds_of_halting (hl : sv.lifecycle = .halting) :
    (sv.close a b w).service.feeds.inUse = sv.feeds.inUse ∧
      (sv.close a b w).service.feeds.crossfade =
        if sv.haltPhase = some .fadeOut then none else sv.feeds.crossfade := by
  have hcrossfade : (sv.decided a b w).feeds.crossfade = sv.feeds.crossfade := by
    rw [Service.decided_feeds, Service.decision_of_halting _ _ _ _ hl]
    exact Service.monitored_crossfade _ _ _ _
  refine ⟨?_, ?_⟩
  · rw [Service.close_of_halting a b w hl]
    show (sv.decided a b w).haltStage.feeds.inUse = _
    rw [Service.haltStage_inUse, Service.decided_feeds, Service.decision_of_halting _ _ _ _ hl]
    exact Service.monitored_inUse _ _ _ _
  · rw [Service.close_of_halting a b w hl, Service.haltStage, Service.decided_haltPhase]
    cases hp : sv.haltPhase with
    | none => simpa using hcrossfade
    | some phase =>
      cases phase with
      | halt => simpa using hcrossfade
      | fadeOut => simp

variable {a b w}

/-! ### The STATE raise of a close -/

theorem Service.close_stateRaises :
    (sv.close a b w).notices.filter (fun d => d.kind == .state) =
      stateNotice sv.lifecycle (sv.close a b w).service := by
  have hstate : ∀ l x, (stateNotice l x).filter (fun d => d.kind == .state) = stateNotice l x :=
    fun _ _ => filter_kind_eq_self fun _ => kind_of_mem_stateNotice
  have hfeed : ∀ f x, (feedNotice f x).filter (fun d => d.kind == .state) = [] := fun _ _ =>
    filter_kind_eq_nil fun _ hd => by rw [kind_of_mem_feedNotice hd]; decide
  have hdeviation : ∀ f x, (deviationNotice f x).filter (fun d => d.kind == .state) = [] := fun _ _ =>
    filter_kind_eq_nil fun _ hd => by rw [kind_of_mem_deviationNotice hd]; decide
  have hlimiter : ∀ x, (limiterNotices x).filter (fun d => d.kind == .state) = [] := fun _ =>
    filter_kind_eq_nil fun _ hd => by rcases kind_of_mem_limiterNotices hd with h | h <;> rw [h] <;> decide
  simp only [Service.close, List.filter_append, hstate, hfeed, hdeviation, hlimiter, List.append_nil]

theorem stateNotice_of_cause {before : Lifecycle} {x : Service} {cause : StateCause}
    (h : stateCause before x.lifecycle = some cause) :
    stateNotice before x = [.state x.lifecycle x.resume cause 0 0] := by
  rw [stateNotice, h]

theorem stateNotice_of_same {before : Lifecycle} {x : Service} (h : x.lifecycle = before) : stateNotice before x = [] := by
  simp [stateNotice, stateCause, h]

end

/-- A state that measures is the one to resume (R35, R44). -/
theorem resumeOf_lifecycle {l : Lifecycle} (h : l.measuring = true) : (resumeOf l).map Resume.lifecycle = some l := by
  cases l with
  | priming | active | bypass => rfl
  | vacant | idle | dropped | halting => cases h

theorem stateCause_resume (r : Resume) : stateCause .dropped r.lifecycle = some .resumed := by
  cases r <;> rfl

theorem stateCause_dropped {l : Lifecycle} (h : l.measuring = true) : stateCause l .dropped = some .noFeed := by
  cases l with
  | priming | active | bypass => rfl
  | vacant | idle | dropped | halting => cases h

theorem Lifecycle.ne_dropped_of_measuring {l : Lifecycle} (h : l.measuring = true) : l ≠ .dropped := by
  rintro rfl
  cases h

theorem Lifecycle.ne_halting_of_measuring {l : Lifecycle} (h : l.measuring = true) : l ≠ .halting := by
  rintro rfl
  cases h

namespace Service.LifecycleLaw

variable {sv : Service} (h : sv.LifecycleLaw)
include h

theorem resume_eq_none (hl : sv.lifecycle ≠ .dropped) : sv.resume = none := by
  obtain ⟨hresume, -⟩ := h
  exact Option.not_isSome_iff_eq_none.mp fun hs => hl (hresume.mp hs)

theorem haltPhase_eq_none (hl : sv.lifecycle ≠ .halting) : sv.haltPhase = none := by
  obtain ⟨-, hphase, -⟩ := h
  exact Option.not_isSome_iff_eq_none.mp fun hs => hl (hphase.mp hs)

end Service.LifecycleLaw

/-- The STATE raise of a close that stays outside DROPPED (R43, R47). -/
theorem stateNotice_of_reached {sv x : Service} {a b : Bool} {w : Word32} (hx : x.lifecycle = sv.reached a b w)
    (hr : x.resume = none) :
    stateNotice sv.lifecycle x =
      if sv.reached a b w = sv.lifecycle then [] else [.state .active none .primed 0 0] := by
  split
  · next hsame => exact stateNotice_of_same (hx.trans hsame)
  · next hmoved =>
    obtain ⟨hl, he, -⟩ := (sv.reached_cases a b w).resolve_left hmoved
    rw [stateNotice_of_cause (cause := .primed) (by rw [hx, he, hl]; rfl), hx, he, hr]

/-- Settles O26: each clause is one decision of the close, with the part of the record that the lifecycle stage moves. -/
theorem lifecycleAtClose : Obligations.LifecycleAtClose := by
  intro sv ua ub stamp after hlaw _ hafter
  subst hafter
  dsimp only
  rw [Service.close_stateRaises]
  refine ⟨rfl, fun reached hread hreached => ?measuring, fun r hl hr hne => ?resumed, fun hl hp => ?halt,
    fun hl hp => ?fadeOut⟩
  case measuring =>
    have hm := Lifecycle.measuring_iff.mpr hread
    have hresume := hlaw.resume_eq_none (Lifecycle.ne_dropped_of_measuring hm)
    have hphase := hlaw.haltPhase_eq_none (Lifecycle.ne_halting_of_measuring hm)
    have hne := Lifecycle.ne_halting_of_measuring hm
    rw [hreached, ← Service.reached_eq]
    rcases sv.decision_of_measuring ua ub stamp hm with hstay | ⟨failed, cause, hdrop⟩
    · obtain ⟨hl, hr, hh, hf⟩ := Service.lifecyclePart_iff.mp (Service.close_of_stay hne hstay)
      refine ⟨hh.trans hphase, fun _ => ⟨hl, hr.trans hresume, hf, stateNotice_of_reached hl (hr.trans hresume)⟩,
        fun hd => absurd (hl.symm.trans hd) (Lifecycle.ne_dropped_of_measuring (sv.reached_measuring ua ub stamp hm))⟩
    · obtain ⟨hl, hr, hh, hf⟩ := Service.lifecyclePart_iff.mp (Service.close_of_drop hne hdrop)
      refine ⟨hh.trans hphase, fun hd => absurd hl hd, fun _ => ⟨?_, hf, ?_⟩⟩
      · rw [hr]
        exact resumeOf_lifecycle (sv.reached_measuring ua ub stamp hm)
      · rw [stateNotice_of_cause (by rw [hl]; exact stateCause_dropped hm), hl]
  case resumed =>
    have hnot : sv.lifecycle ≠ .halting := by rw [hl]; decide
    rcases sv.decision_of_dropped ua ub stamp hl with hstay | ⟨taken, cause, hresume⟩
    · obtain ⟨hsame, -⟩ := Service.lifecyclePart_iff.mp (Service.close_of_stay hnot (.inl hstay))
      rcases sv.reached_cases ua ub stamp with he | ⟨hp, -⟩
      · exact absurd (hsame.trans (he.trans hl)) hne
      · exact absurd (hl.symm.trans hp) (by decide)
    · have hclose := Service.close_of_resume hnot hresume
      have hstate : (sv.close ua ub stamp).service.lifecycle = r.lifecycle := by
        rw [hclose]
        simp [Service.resumed, hr]
      have hnotice : stateNotice sv.lifecycle (sv.close ua ub stamp).service =
          [.state r.lifecycle none .resumed 0 0] := by
        rw [stateNotice_of_cause (by rw [hstate, hl]; exact stateCause_resume r), hstate, hclose]
        rfl
      refine ⟨hstate, ?_⟩
      rw [hnotice, hclose]
      exact ⟨rfl, rfl, rfl, rfl, by simp [Service.resumed, Measurement.sized],
        by simp [Service.resumed, Measurement.sized], rfl⟩
  case halt =>
    obtain ⟨hstate, -, hh, hf⟩ := Service.lifecyclePart_iff.mp (Service.close_of_halt ua ub stamp hl hp)
    obtain ⟨huse, hcross⟩ := Service.close_feeds_of_halting ua ub stamp hl
    refine ⟨hstate, hh, hf, huse, ?_, stateNotice_of_same (hstate.trans hl.symm)⟩
    rw [hcross, hp]
    exact if_neg (by decide)
  case fadeOut =>
    obtain ⟨hstate, hr, hh, -⟩ := Service.lifecyclePart_iff.mp (Service.close_of_fadeOut ua ub stamp hl hp)
    obtain ⟨huse, hcross⟩ := Service.close_feeds_of_halting ua ub stamp hl
    refine ⟨hstate, hh, huse, ?_, ?_, ?_⟩
    · rw [hcross, if_pos hp]
    · rw [Service.close_released, if_pos hstate]
    · rw [stateNotice_of_cause (cause := .halted) (by rw [hstate, hl]; rfl), hstate, hr,
        hlaw.resume_eq_none (by rw [hl]; decide)]

end Sys2Proof.Machine
end

section
/-! PROOF. What any command does to a service record, said once for the laws that speak of one record: the changes of a
record one by one, and every command as a series of them. -/

namespace Sys2Proof.Machine

/-! ### One change of a record -/

/-- The changes that commands make to a service record, with the conditions under which each comes. -/
inductive Service.Change : Service → Service → Prop where
  /-- A frame of OUTPUT_FRAME (R21). -/
  | framed (sv : Service) (i : Nat) (slotsA slotsB : Slots) : Change sv (sv.atFrame i slotsA slotsB).1
  /-- A close of SUBBLOCK_END (R42). -/
  | closed {sv : Service} (usableA usableB : Bool) (stamp : Word32) (running : sv.lifecycle.running = true) :
    Change sv (sv.close usableA usableB stamp).service
  /-- Start from IDLE and autostart (R37, R55). -/
  | started {sv : Service} (entry : Bool) (idle : sv.lifecycle = .idle) : Change sv (sv.started entry)
  /-- A Start that ends a bypass (R39). -/
  | bypassLeft {sv : Service} (bypass : sv.lifecycle = .bypass) :
    Change sv { sv with lifecycle := (afterBypass sv).lifecycle }
  /-- A Start that ends the bypass a DROPPED service waits to resume (R39). -/
  | resumeLeft {sv : Service} (dropped : sv.lifecycle = .dropped) (bypass : sv.resume = some .bypass) :
    Change sv { sv with resume := some (afterBypass sv) }
  /-- Halt (R41). -/
  | halted {sv : Service} (running : sv.lifecycle.running = true) :
    Change sv { sv with lifecycle := .halting, resume := none, haltPhase := some .halt }
  /-- Bypass from PRIMING and ACTIVE (R40). -/
  | bypassed {sv : Service} (live : sv.lifecycle = .priming ∨ sv.lifecycle = .active) :
    Change sv { sv with lifecycle := .bypass }
  /-- Bypass in DROPPED (R40). -/
  | bypassWaiting {sv : Service} (dropped : sv.lifecycle = .dropped) : Change sv { sv with resume := some .bypass }
  /-- Mark (R87, R88). -/
  | marked {sv : Service} (regain : Bool) (running : sv.lifecycle.running = true) : Change sv (sv.marked regain)
  /-- Its option RESTART (R89). -/
  | restarted {sv : Service} (running : sv.lifecycle.running = true) : Change sv sv.restarted
  /-- Select (R156, R157). -/
  | selected {sv : Service} (mode : SelectionMode) (mapped : mode = .forceReserve → sv.reserveMapped = true) :
    Change sv { sv with feeds := { sv.feeds with mode := mode } }
  /-- A Profile in a running state (R99, R100). -/
  | profilePending {sv : Service} {p : Profile} {payload : List Byte} (accepted : profileOfPayload payload = .ok p)
    (running : sv.lifecycle.running = true) : Change sv { sv with pendingProfile := some p }
  /-- A Profile in VACANT and IDLE (R97). -/
  | profiled {sv : Service} {p : Profile} {payload : List Byte} (accepted : profileOfPayload payload = .ok p)
    (still : sv.lifecycle.running = false) : Change sv (sv.profiledAtOnce p)
  /-- A Map, or a stored map (R28, R34). -/
  | mapped {sv : Service} {owner : TableId → SlotIndex → Option Owner} {n : ServiceIndex} {layout : Layout}
    {channels : List ChannelMap} (still : sv.lifecycle.running = false) (fits : MapFits owner n layout channels) :
    Change sv (sv.mapped layout channels)
  /-- An Unmap (R31). -/
  | unmapped {sv : Service} (idle : sv.lifecycle = .idle) : Change sv sv.unmapped
  /-- A reset that keeps map and profile (R188). -/
  | kept (sv : Service) : Change sv sv.afterReset
  /-- A load of a profile of the image, before its map (R34, R184). -/
  | loaded (sv : Service) (payload : List Byte) : Change sv (Service.loaded (loadedProfile payload))
  /-- A load without image (R34). -/
  | factory (sv : Service) : Change sv (Service.loaded Profile.factory)

/-! ### Records that change -/

/-- Every record of `t` comes from that of `s` by a series of changes. -/
def State.Changes (s t : State) : Prop :=
  ∀ n, Relation.ReflTransGen Service.Change (s.service n) (t.service n)

theorem State.Changes.refl (s : State) : s.Changes s :=
  fun _ => .refl

theorem State.Changes.trans {s t u : State} (hst : s.Changes t) (htu : t.Changes u) : s.Changes u :=
  fun n => (hst n).trans (htu n)

theorem State.Changes.of_services {s t : State} (h : ∀ n, t.service n = s.service n) : s.Changes t :=
  fun n => h n ▸ .refl

theorem State.Changes.of_records {s t : State} (h : t.records = s.records) : s.Changes t :=
  .of_services (State.service_of_records h)

theorem State.Changes.each {s t : State} (h : ∀ n, Service.Change (s.service n) (t.service n)) : s.Changes t :=
  fun n => .single (h n)

/-- Writing one record by a series of changes. -/
theorem State.Changes.setService {s : State} {n : ServiceIndex} {sv : Service}
    (h : Relation.ReflTransGen Service.Change (s.service n) sv) : s.Changes (s.setService n sv) := by
  intro m
  rw [State.service_setService]
  split
  · next hm => exact hm ▸ h
  · exact .refl

theorem State.Changes.one {s : State} {n : ServiceIndex} {sv : Service} (h : Service.Change (s.service n) sv) :
    s.Changes (s.setService n sv) :=
  .setService (.single h)

/-- A law of a record that every change keeps holds of all records after a series of changes. -/
theorem State.Changes.keep {P : Service → Prop} (hP : ∀ {sv sv' : Service}, Service.Change sv sv' → P sv → P sv')
    {s t : State} (h : s.Changes t) (hs : ∀ n, P (s.service n)) (n : ServiceIndex) : P (t.service n) := by
  have hn := h n
  generalize t.service n = sv at hn ⊢
  induction hn with
  | refl => exact hs n
  | tail _ hc ih => exact hP hc ih

/-! ### Requests that change a record -/

section
variable (n : ServiceIndex) (f : ControlFrame) (s : State)

theorem startAct_changes : s.Changes (startAct n f s).1 := by
  unfold startAct
  dsimp only
  split
  · next hl =>
    split
    · exact .refl s
    split
    · exact .refl s
    · exact .one (n := n) (.started true hl)
  · next hl =>
    split
    · exact .refl s
    · exact .one (.bypassLeft hl)
  · next hl hr =>
    split
    · exact .refl s
    · exact .one (.resumeLeft hl hr)
  · exact .refl s

theorem haltAct_changes : s.Changes (haltAct n f s).1 := by
  unfold haltAct
  dsimp only
  split
  · exact .refl s
  split
  · exact .refl s
  split
  · exact .refl s
  · next hv _ hi =>
    refine .one (.halted ?_)
    cases hl : (s.service n).lifecycle <;> simp [hl] at hv hi <;> rfl

theorem bypassAct_changes : s.Changes (bypassAct n f s).1 := by
  unfold bypassAct
  dsimp only
  split
  · exact .refl s
  · exact .refl s
  · exact .refl s
  · split <;> exact .refl s
  · next hl =>
    split
    · exact .refl s
    · exact .one (.bypassed (.inl hl))
  · next hl =>
    split
    · exact .refl s
    · exact .one (.bypassed (.inr hl))
  · next hl =>
    split
    · exact .refl s
    · exact .one (.bypassWaiting hl)

theorem markAct_changes : s.Changes (markAct n f s).1 := by
  have hmarked : ∀ regain restart : Bool, (s.service n).lifecycle.running = true →
      Relation.ReflTransGen Service.Change (s.service n)
        (if restart then ((s.service n).marked regain).restarted else (s.service n).marked regain) := by
    intro regain restart hr
    have hmark := Service.Change.marked regain hr
    cases restart with
    | false => exact .single hmark
    | true => exact .tail (.single hmark) (.restarted (sv := (s.service n).marked regain) hr)
  unfold markAct
  dsimp only
  cases hl : (s.service n).lifecycle with
  | vacant | idle | halting => exact .refl s
  | priming | active | bypass | dropped =>
    dsimp only
    split
    · split
      · exact .refl s
      · exact .setService (hmarked _ _ (by rw [hl]; rfl))
    · exact .refl s

theorem modeOf_forceReserve {reserve : Bool} {b : Byte} (h : modeOf reserve b = some .forceReserve) :
    reserve = true := by
  unfold modeOf at h
  split at h
  · cases h
  split at h
  · cases h
  split at h
  · next hb => exact hb.2
  · cases h

theorem selectAct_changes : s.Changes (selectAct n f s).1 := by
  unfold selectAct
  dsimp only
  split
  · exact .refl s
  split
  · split
    · next hmode => exact .one (.selected _ fun hr => modeOf_forceReserve (hr ▸ hmode))
    · exact .refl s
  · exact .refl s

theorem profileAct_changes (protect : PinLevel) : s.Changes (profileAct protect n f s).1 := by
  unfold profileAct
  dsimp only
  split
  · exact .refl s
  split
  · exact .refl s
  next hp =>
  generalize (if protect = .high then _ else none : Option Byte) = refusal
  cases refusal with
  | some index => exact .refl s
  | none =>
    dsimp only
    split
    · next hr => exact .one (.profilePending hp hr)
    · next hr => exact .one (.profiled hp (Bool.eq_false_iff.mpr hr))

/-- A map that fits changes the record of a service that does not run (R28). -/
theorem State.mapService_changes {s : State} {n : ServiceIndex} {owner : TableId → SlotIndex → Option Owner}
    {layout : Layout} {channels : List ChannelMap} (hr : (s.service n).lifecycle.running = false)
    (hfits : MapFits owner n layout channels) : s.Changes (s.mapService n layout channels) := by
  refine (State.Changes.of_services (s.remapped_service n channels)).trans (.one ?_)
  rw [State.remapped_service]
  exact .mapped hr hfits

theorem mapAct_changes : s.Changes (mapAct n f s).1 := by
  rcases mapAct_holdings n f s with he | ⟨layout, channels, hr, hfits, he⟩ <;> rw [he]
  · exact .refl s
  · exact State.mapService_changes hr hfits

theorem unmapAct_changes : s.Changes (unmapAct n f s).1 := by
  rcases unmapAct_holdings n f s with he | ⟨hl, he⟩ <;> rw [he]
  · exact .refl s
  · refine (State.Changes.of_services (s.remapped_service n [])).trans (.one ?_)
    rw [State.remapped_service]
    exact .unmapped hl

/-- A served request changes the records as its rule does. -/
theorem serve_changes {kind : Byte} {act : ControlFrame → State → State × Answer}
    (hact : ∀ f t, State.Changes t (act f t).1) : s.Changes (serve kind act s) :=
  serve_keeps (P := s.Changes) (fun t ht => ht.trans (.of_records t.dequeued_records))
    (fun f t ht => ht.trans (hact f t))
    (fun t frame mark ht => ht.trans (.of_records ((State.kick_records _).trans (t.appendReply_records frame mark))))
    (.refl s)

theorem onService_changes {act : ServiceIndex → ControlFrame → State → State × Answer}
    (hact : ∀ n f t, State.Changes t (act n f t).1) : s.Changes (onService act f s).1 :=
  onService_keeps f (P := s.Changes) (fun n f t ht => ht.trans (hact n f t)) (.refl s)

theorem serve_onService_changes {kind : Byte} {act : ServiceIndex → ControlFrame → State → State × Answer}
    (hact : ∀ n f t, State.Changes t (act n f t).1) : s.Changes (serve kind (onService act) s) :=
  serve_changes s fun f t => onService_changes f t hact

theorem profileRequest_changes (protect : PinLevel) : s.Changes (profileRequest protect s) :=
  serve_changes s fun f t => (State.Changes.of_records (t.sampleProtect_records protect)).trans
    (onService_changes f _ fun n f u => profileAct_changes n f u protect)

end

/-! ### Frames and closes -/

theorem outputFrame_changes (s : State) : s.Changes (outputFrame s) := by
  by_cases h : s.operating = true ∧ s.clock.start = .given ∧ s.frame < 4800
  · obtain ⟨ho, hg, hf⟩ := h
    refine .each fun n => ?_
    rw [State.service_of_services (outputFrame_services ho hg hf)]
    exact .framed _ _ _ _
  · have hsame : outputFrame s = s := by
      refine if_neg fun hc => h ?_
      simp only [Bool.and_eq_true, beq_iff_eq, decide_eq_true_eq] at hc
      exact ⟨hc.1.1, hc.1.2, hc.2⟩
    rw [hsame]
    exact .refl s

theorem subblockEnd_changes (s : State) (order : List CloseItem) : s.Changes (subblockEnd order s) := by
  by_cases hdue : s.operating = true ∧ s.frame = 4800
  · intro n
    rw [subblockEnd_service order hdue.1 hdue.2, State.closedService]
    split
    · next hr => exact .single (.closed _ _ _ hr)
    · exact .refl
  · have hsame : subblockEnd order s = s := if_neg (by simpa using hdue)
    rw [hsame]
    exact .refl s

/-! ### Loads and resets -/

/-- Stored maps applied to services that do not run (R34). -/
theorem State.applyStored_all_changes (i : Image) (services : List ServiceIndex) (s : State)
    (hstill : ∀ n, (s.service n).lifecycle.running = false) : s.Changes (services.foldl (State.applyStored i) s) := by
  induction services generalizing s with
  | nil => exact .refl s
  | cons n services ih =>
    rw [List.foldl_cons]
    rcases State.applyStored_cases i s n with he | ⟨payload, layout, channels, hc, he⟩ <;> rw [he]
    · exact ih s hstill
    · refine (State.mapService_changes (hstill n) ((mapChecksAcceptExactly _ _ _ _ _).mp hc).2).trans (ih _ fun m => ?_)
      rw [State.mapService, State.service_setService]
      split
      · rfl
      · exact hstill m

theorem State.reloaded_changes (s : State) : s.Changes s.reloaded := by
  cases h : s.flash.items? with
  | none =>
    refine .each fun n => ?_
    have hfactory : s.reloaded.service n = Service.loaded Profile.factory := by
      rw [State.reloaded_of_none h]
      exact Vector.get_replicate _ _ n
    rw [hfactory]
    exact .factory _
  | some i =>
    have hbase : s.Changes (s.loadBase i) := .each fun n => by
      rw [State.loadBase_service]
      exact .loaded _ _
    have hmaps : (s.loadBase i).Changes (s.loadedFrom (some i)) :=
      State.applyStored_all_changes i _ _ fun n => by
        rw [State.loadBase_service]
        rfl
    rw [State.reloaded_of_some h]
    exact hbase.trans hmaps

theorem State.configured_changes (s : State) (option : ResetOption) : s.Changes (s.configured option) := by
  cases option with
  | keep =>
    refine .each fun n => ?_
    rw [State.configured, State.keptOver_service]
    exact .kept _
  | reload => exact s.reloaded_changes

/-- Autostart starts IDLE services alone (R55). -/
theorem State.autostarted_changes (s : State) (cause : ResetCause) : s.Changes (s.autostarted cause) := by
  intro n
  rcases s.autostarted_service cause n with he | ⟨hl, -, he⟩ <;> rw [he]
  exact .single (.started false hl)

theorem State.clearedFor_changes (s : State) (cause : ResetCause) : s.Changes (s.clearedFor cause) :=
  .of_services fun _ => rfl

theorem resetRequestActs_changes (s : State) : s.Changes (resetRequestActs s) := by
  by_cases hd : s.operating = true ∧ ∃ option, s.control.resetPhase = .due option
  · obtain ⟨ho, option, hdue⟩ := hd
    rw [resetRequestActs_of_due ho hdue]
    exact (s.configured_changes option).trans (((s.configured option).clearedFor_changes .request).trans
      (State.autostarted_changes _ .request))
  · have hsame : resetRequestActs s = s := by
      unfold resetRequestActs
      split
      · next option hdue => exact if_neg fun ho => hd ⟨ho, option, hdue⟩
      all_goals rfl
    rw [hsame]
    exact .refl s

theorem State.startUp_changes (s : State) (cause : ResetCause) (rate1 rate0 : PinLevel) (age : Option Rat) :
    s.Changes ((s.startCleared cause rate1 rate0 age).autostarted cause) :=
  (State.Changes.of_services fun _ => rfl).trans (s.released.reloaded_changes.trans
    ((State.Changes.of_services fun _ => rfl).trans ((s.startCleared cause rate1 rate0 age).autostarted_changes cause)))

section
variable (s : State) (rate1 rate0 : PinLevel) (age : Option Rat)

theorem powerOn_changes : s.Changes (powerOn rate1 rate0 age s) := by
  cases hs : s.pins.supplyGood with
  | true =>
    rw [powerOn, if_pos hs]
    exact .refl s
  | false =>
    cases hr : s.pins.resetAsserted with
    | true =>
      simp only [powerOn, hs, hr, Bool.false_eq_true, if_false, if_true]
      exact .of_services fun _ => rfl
    | false =>
      rw [powerOn_of_dark hs hr]
      exact s.startUp_changes .power rate1 rate0 age

theorem resetPinRelease_changes : s.Changes (resetPinRelease rate1 rate0 age s) := by
  cases hr : s.pins.resetAsserted with
  | false =>
    rw [resetPinRelease, if_neg (by simp [hr])]
    exact .refl s
  | true =>
    cases hs : s.pins.supplyGood with
    | true =>
      rw [resetPinRelease_of_held hs hr]
      exact s.startUp_changes .pin rate1 rate0 age
    | false =>
      simp only [resetPinRelease, hs, hr, Bool.false_eq_true, if_false, if_true]
      exact .of_services fun _ => rfl

end

/-! ### Every command -/

theorem exec_changes (c : Instr) (s : State) : ∃ t, exec c s = .next t ∧ s.Changes t := by
  cases c with
  | outputFrame => exact ⟨_, rfl, outputFrame_changes s⟩
  | missingEdge => exact ⟨_, rfl, .of_records (missingEdge_records s)⟩
  | clockToInternal => exact ⟨_, rfl, .of_records (clockToInternal_records s)⟩
  | refclkEdge before since => exact ⟨_, rfl, .of_records (refclkEdge_records s before since)⟩
  | clockToReference => exact ⟨_, rfl, .of_records (clockToReference_records s)⟩
  | searchFramePosition p bits => exact ⟨_, rfl, .of_records (searchFramePosition_records s p bits)⟩
  | portLock p body => exact ⟨_, rfl, .of_records (portLock_records s p body)⟩
  | linkFrameArrival p line => exact ⟨_, rfl, .of_records (linkFrameArrival_records s p line)⟩
  | portLossOfSync p => exact ⟨_, rfl, .of_records (portLossOfSync_records s p)⟩
  | subblockEnd order => exact ⟨_, rfl, subblockEnd_changes s order⟩
  | controlFrameComplete => exact ⟨_, rfl, .of_records (controlFrameComplete_records s)⟩
  | lengthFault => exact ⟨_, rfl, .of_records (lengthFault_records s)⟩
  | frameTimeout => exact ⟨_, rfl, .of_records (frameTimeout_records s)⟩
  | unknownKind => exact ⟨_, rfl, .of_records (unknownKind_records s)⟩
  | identify => exact ⟨_, rfl, .of_records (identifyRequest_records s)⟩
  | query protect => exact ⟨_, rfl, .of_records (queryRequest_records s protect)⟩
  | peek => exact ⟨_, rfl, .of_records (peekRequest_records s)⟩
  | map => exact ⟨_, rfl, serve_onService_changes s mapAct_changes⟩
  | unmap => exact ⟨_, rfl, serve_onService_changes s unmapAct_changes⟩
  | profile protect => exact ⟨_, rfl, profileRequest_changes s protect⟩
  | start => exact ⟨_, rfl, serve_onService_changes s startAct_changes⟩
  | halt => exact ⟨_, rfl, serve_onService_changes s haltAct_changes⟩
  | bypass => exact ⟨_, rfl, serve_onService_changes s bypassAct_changes⟩
  | mark => exact ⟨_, rfl, serve_onService_changes s markAct_changes⟩
  | select => exact ⟨_, rfl, serve_onService_changes s selectAct_changes⟩
  | ports => exact ⟨_, rfl, .of_records (portsRequest_records s)⟩
  | notify => exact ⟨_, rfl, .of_records (notifyRequest_records s)⟩
  | store protect => exact ⟨_, rfl, .of_records (storeRequest_records s protect)⟩
  | storeComplete good => exact ⟨_, rfl, .of_records (storeComplete_records s good)⟩
  | reset => exact ⟨_, rfl, .of_records (resetRequest_records s)⟩
  | resetRequestActs => exact ⟨_, rfl, resetRequestActs_changes s⟩
  | transmitFrameEnd => exact ⟨_, rfl, .of_records (transmitFrameEnd_records s)⟩
  | powerOn rate1 rate0 age => exact ⟨_, rfl, powerOn_changes s rate1 rate0 age⟩
  | resetPinAssert => exact ⟨_, rfl, .of_services fun _ => rfl⟩
  | resetPinRelease rate1 rate0 age => exact ⟨_, rfl, resetPinRelease_changes s rate1 rate0 age⟩
  | controlByteReceived value stop => exact ⟨_, rfl, .of_records (controlByteReceived_records s value stop)⟩
  | lossOfPower => exact ⟨_, rfl, .of_services fun _ => rfl⟩

/-- Every step changes the records by a series of the changes named (R23). -/
theorem step_changes {s t : State} (h : step s = .next t) : s.Changes t :=
  step_keeps (P := s.Changes) (fun _ _ hu => hu)
    (fun c u hu => (exec_changes c u).imp fun _ ht => ⟨ht.1, hu.trans ht.2⟩) (.refl s) h

end Sys2Proof.Machine
end

section
/-! PROOF. Every command keeps the lifecycle state in agreement with the record (R35, R65, R93, R99), and the law of the feed
in use (R140, R146): O57. -/

namespace Sys2Proof.Machine

/-! ### The ring (R65) -/

theorem ringAppend_length {ring : List Rat} (h : ring.length ≤ 30) (q : Rat) :
    (ringAppend ring q).length = min (ring.length + 1) 30 := by
  unfold ringAppend Config.ringSize
  split
  · rw [List.length_append, List.length_singleton]
    omega
  · rw [List.length_append, List.length_tail, List.length_singleton]
    omega

/-- A full ring stays full (R65). -/
theorem Service.close_ring_full {sv : Service} (hfull : sv.meas.ring.length = 30) (a b : Bool) (w : Word32) :
    (sv.close a b w).service.meas.ring.length = 30 := by
  rw [Service.close_ring]
  split
  · rw [ringAppend_length (le_of_eq hfull), hfull]
    rfl
  · exact hfull

/-! ### The lifecycle law (R35, R65, R93) -/

/-- A service that does not run and that nothing of a run is left of. -/
theorem Service.lifecycleLaw_of_still {sv : Service} (hr : sv.lifecycle.running = false) (hresume : sv.resume = none)
    (hphase : sv.haltPhase = none) (hpending : sv.pendingProfile = none) (hentry : sv.entryMarker = false)
    (hring : sv.meas.ring.length ≤ 30) : sv.LifecycleLaw := by
  unfold Service.LifecycleLaw
  rw [hresume, hphase, hpending, hentry]
  cases hl : sv.lifecycle <;> simp [hl, Lifecycle.running] at hr ⊢ <;> exact hring

/-- In particular, as a load or a reset leaves it. -/
theorem Service.UnitsCleared.lifecycleLaw {sv : Service} (h : sv.UnitsCleared) (hr : sv.lifecycle.running = false) :
    sv.LifecycleLaw := by
  obtain ⟨hresume, hentry, hphase, hpending, hmeas, -⟩ := h
  exact Service.lifecycleLaw_of_still hr hresume hphase hpending hentry (by rw [hmeas]; exact Nat.zero_le _)

namespace Service.LifecycleLaw

variable {sv sv' : Service} (h : sv.LifecycleLaw)
include h

/-- The law reads lifecycle state, resume state, close phase, pending profile, entry marker and ring alone. -/
theorem congr (hl : sv'.lifecycle = sv.lifecycle) (hr : sv'.resume = sv.resume) (hp : sv'.haltPhase = sv.haltPhase)
    (hpending : sv'.pendingProfile = sv.pendingProfile) (hentry : sv'.entryMarker = sv.entryMarker)
    (hring : sv'.meas.ring = sv.meas.ring) : sv'.LifecycleLaw := by
  unfold Service.LifecycleLaw at h ⊢
  rwa [hl, hr, hp, hpending, hentry, hring]

/-- A record of a service that does not run has nothing of a run. -/
theorem still (hr : sv.lifecycle.running = false) :
    sv.resume = none ∧ sv.haltPhase = none ∧ sv.pendingProfile = none ∧ sv.entryMarker = false := by
  have hdropped : sv.lifecycle ≠ .dropped := fun hl => by rw [hl] at hr; cases hr
  have hhalting : sv.lifecycle ≠ .halting := fun hl => by rw [hl] at hr; cases hr
  refine ⟨h.resume_eq_none hdropped, h.haltPhase_eq_none hhalting, ?_, ?_⟩
  · obtain ⟨-, -, hpending, -⟩ := h
    exact Option.not_isSome_iff_eq_none.mp fun hs => by rw [hpending hs] at hr; cases hr
  · obtain ⟨-, -, -, hentry, -⟩ := h
    exact Bool.eq_false_iff.mpr fun hs => by rw [hentry hs] at hr; cases hr

/-- A record that goes on running keeps the law when its resume state, close phase and ring still fit its new state. -/
theorem of_running (hr : sv'.lifecycle.running = true) (hresume : sv'.resume.isSome ↔ sv'.lifecycle = .dropped)
    (hphase : sv'.haltPhase.isSome ↔ sv'.lifecycle = .halting) (hring : sv'.meas.ring = sv.meas.ring)
    (hfull : sv'.lifecycle = .active ∨ sv'.resume = some .active → sv.meas.ring.length = 30) : sv'.LifecycleLaw := by
  obtain ⟨-, -, -, -, hlength, -⟩ := h
  exact ⟨hresume, hphase, fun _ => hr, fun _ => hr, hring ▸ hlength, hring ▸ hfull⟩

/-! ### A close -/

variable (a b : Bool) (w : Word32)

theorem close_ring_length : (sv.close a b w).service.meas.ring.length ≤ 30 := by
  obtain ⟨-, -, -, -, hlength, -⟩ := h
  rw [Service.close_ring]
  split
  · rw [ringAppend_length hlength]
    exact Nat.min_le_right _ _
  · exact hlength

/-- A close reaches ACTIVE with a full ring alone (R43). -/
theorem reached_active (hreached : sv.reached a b w = .active) : (sv.close a b w).service.meas.ring.length = 30 := by
  rcases sv.reached_cases a b w with he | ⟨-, -, hfull⟩
  · obtain ⟨-, -, -, -, -, hfull⟩ := id h
    exact Service.close_ring_full (hfull (.inl (he.symm.trans hreached))) a b w
  · exact hfull

/-- After a close no profile is pending and no entry is marked, so the part that the lifecycle stage moves decides. -/
theorem close_of_part {p : LifecyclePart} (hp : (sv.close a b w).service.lifecyclePart = p)
    (hresume : p.resume.isSome ↔ p.lifecycle = .dropped) (hphase : p.haltPhase.isSome ↔ p.lifecycle = .halting)
    (hfull : p.lifecycle = .active ∨ p.resume = some .active → (sv.close a b w).service.meas.ring.length = 30) :
    (sv.close a b w).service.LifecycleLaw := by
  obtain ⟨hl, hr, hh, -⟩ := Service.lifecyclePart_iff.mp hp
  unfold Service.LifecycleLaw
  rw [hl, hr, hh, Service.close_pendingProfile, Service.close_entryMarker]
  exact ⟨hresume, hphase, by simp, by simp, h.close_ring_length a b w, hfull⟩

theorem close_of_measuring (hm : sv.lifecycle.measuring = true) : (sv.close a b w).service.LifecycleLaw := by
  have hne := Lifecycle.ne_halting_of_measuring hm
  have hmr := sv.reached_measuring a b w hm
  have hresume := h.resume_eq_none (Lifecycle.ne_dropped_of_measuring hm)
  have hphase := h.haltPhase_eq_none hne
  rcases sv.decision_of_measuring a b w hm with hstay | ⟨failed, cause, hdrop⟩
  · refine h.close_of_part a b w (Service.close_of_stay hne hstay) ?_ ?_ ?_
    · simp [hresume, Lifecycle.ne_dropped_of_measuring hmr]
    · simp [hphase, Lifecycle.ne_halting_of_measuring hmr]
    · simpa [hresume] using h.reached_active a b w
  · refine h.close_of_part a b w (Service.close_of_drop hne hdrop) ?_ ?_ ?_
    · have hsome := resumeOf_lifecycle hmr
      cases hr : resumeOf (sv.reached a b w) with
      | none => rw [hr] at hsome; cases hsome
      | some r => simp
    · simp [hphase]
    · intro hactive
      have hr : resumeOf (sv.reached a b w) = some .active := hactive.resolve_left (by simp)
      have hsome := resumeOf_lifecycle hmr
      rw [hr] at hsome
      exact h.reached_active a b w (Option.some.inj hsome).symm

theorem close_of_dropped (hl : sv.lifecycle = .dropped) : (sv.close a b w).service.LifecycleLaw := by
  obtain ⟨hresume, -, -, -, -, hfull⟩ := id h
  have hne : sv.lifecycle ≠ .halting := by rw [hl]; decide
  have hphase := h.haltPhase_eq_none hne
  obtain ⟨r, hr⟩ := Option.isSome_iff_exists.mp (hresume.mpr hl)
  have hring : r = .active → (sv.close a b w).service.meas.ring.length = 30 := fun he =>
    Service.close_ring_full (hfull (.inr (by rw [hr, he]))) a b w
  rcases sv.decision_of_dropped a b w hl with hstay | ⟨taken, cause, hd⟩
  · have hreached : sv.reached a b w = .dropped := by
      rcases sv.reached_cases a b w with he | ⟨hp, -⟩
      · exact he.trans hl
      · rw [hl] at hp; cases hp
    refine h.close_of_part a b w (Service.close_of_stay hne (.inl hstay)) ?_ ?_ ?_ <;>
      simp only [hreached, hr, hphase]
    · simp
    · simp
    · simpa using hring
  · have hpart : (sv.close a b w).service.lifecyclePart =
        { lifecycle := r.lifecycle, resume := none, haltPhase := none, pendingFade := some .fadeIn } := by
      rw [Service.close_of_resume hne hd]
      simp [Service.lifecyclePart, Service.resumed, hr, hphase]
    refine h.close_of_part a b w hpart ?_ ?_ ?_
    · cases r <;> simp [Resume.lifecycle]
    · cases r <;> simp [Resume.lifecycle]
    · cases r <;> simp [Resume.lifecycle] at hring ⊢
      exact hring

theorem close_of_halting (hl : sv.lifecycle = .halting) : (sv.close a b w).service.LifecycleLaw := by
  obtain ⟨-, hphase, -⟩ := id h
  have hresume := h.resume_eq_none (by rw [hl]; decide)
  obtain ⟨phase, hp⟩ := Option.isSome_iff_exists.mp (hphase.mpr hl)
  cases phase with
  | halt =>
    refine h.close_of_part a b w (Service.close_of_halt a b w hl hp) ?_ ?_ ?_ <;> simp [hresume]
  | fadeOut =>
    refine h.close_of_part a b w (Service.close_of_fadeOut a b w hl hp) ?_ ?_ ?_ <;> simp [hresume]

theorem close (hr : sv.lifecycle.running = true) : (sv.close a b w).service.LifecycleLaw := by
  rcases Lifecycle.running_cases hr with hm | hl | hl
  · exact h.close_of_measuring a b w hm
  · exact h.close_of_dropped a b w hl
  · exact h.close_of_halting a b w hl

end Service.LifecycleLaw

/-! ### Every change of a record -/

theorem Service.atFrame_ring (sv : Service) (i : Nat) (a b : Slots) :
    (sv.atFrame i a b).1.meas.ring = sv.meas.ring := by
  unfold Service.atFrame
  split <;> rfl

/-- A Start that ends a bypass gives ACTIVE with a full ring alone (R39). -/
theorem afterBypass_active {sv : Service} (h : afterBypass sv = .active) : sv.meas.ring.length = 30 := by
  unfold afterBypass at h
  split at h
  · next hfull => exact hfull
  · cases h

/-- RESTART moves ACTIVE to PRIMING alone, in the state and in the resume state (R89). -/
theorem Service.restarted_lifecycle_iff {sv : Service} {l : Lifecycle} (hp : l ≠ .priming) (ha : l ≠ .active) :
    sv.restarted.lifecycle = l ↔ sv.lifecycle = l := by
  unfold Service.restarted
  dsimp only
  split
  · next h => rw [h]; exact iff_of_false hp.symm ha.symm
  · rfl

theorem Service.restarted_resume_isSome (sv : Service) : sv.restarted.resume.isSome = sv.resume.isSome := by
  unfold Service.restarted
  dsimp only
  split
  · next h => rw [h]; rfl
  · rfl

theorem Service.restarted_not_active (sv : Service) :
    ¬(sv.restarted.lifecycle = .active ∨ sv.restarted.resume = some .active) := by
  unfold Service.restarted
  dsimp only
  rintro (h | h)
  · split at h
    · cases h
    · next hne => exact hne h
  · split at h
    · cases h
    · next hne => exact hne h

theorem Service.LifecycleLaw.changed {sv sv' : Service} (hc : Service.Change sv sv') (h : sv.LifecycleLaw) :
    sv'.LifecycleLaw := by
  obtain ⟨hresume, hphase, -, -, hlength, hfull⟩ := id h
  cases hc with
  | framed i slotsA slotsB => exact h.congr (by simp) (by simp) (by simp) (by simp) (by simp) (sv.atFrame_ring _ _ _)
  | closed usableA usableB stamp running => exact h.close _ _ _ running
  | started entry idle =>
    exact ⟨by simp [Service.started], by simp [Service.started], fun _ => rfl, fun _ => rfl, Nat.zero_le _,
      by simp [Service.started]⟩
  | bypassLeft bypass =>
    have hr := h.resume_eq_none (by rw [bypass]; decide)
    have hp := h.haltPhase_eq_none (by rw [bypass]; decide)
    refine h.of_running (Resume.lifecycle_running _) ?_ ?_ rfl ?_
    · cases he : afterBypass sv <;> simp [hr, Resume.lifecycle]
    · cases he : afterBypass sv <;> simp [hp, Resume.lifecycle]
    · cases he : afterBypass sv <;> simp [hr, Resume.lifecycle]
      exact afterBypass_active he
  | resumeLeft dropped bypass =>
    refine h.of_running (by rw [dropped]; rfl) (by simp [dropped]) hphase rfl ?_
    simpa [dropped] using afterBypass_active
  | halted running => exact h.of_running rfl (by simp) (by simp) rfl (by simp)
  | bypassed live =>
    have hr := h.resume_eq_none (by rcases live with hl | hl <;> rw [hl] <;> decide)
    have hp := h.haltPhase_eq_none (by rcases live with hl | hl <;> rw [hl] <;> decide)
    exact h.of_running rfl (by simp [hr]) (by simp [hp]) rfl (by simp [hr])
  | bypassWaiting dropped => exact h.of_running (by rw [dropped]; rfl) (by simp [dropped]) hphase rfl (by simp [dropped])
  | marked regain running => exact h.congr rfl rfl rfl rfl rfl rfl
  | restarted running =>
    have hrun := sv.restarted_holding.running.trans running
    refine ⟨?_, ?_, fun _ => hrun, fun _ => hrun, Nat.zero_le _, fun ha => absurd ha sv.restarted_not_active⟩
    · rw [Service.restarted_resume_isSome, Service.restarted_lifecycle_iff (by decide) (by decide)]
      exact hresume
    · rw [Service.restarted_lifecycle_iff (by decide) (by decide)]
      exact hphase
  | selected mode mapped => exact h.congr rfl rfl rfl rfl rfl rfl
  | profilePending accepted running => exact h.of_running running hresume hphase rfl hfull
  | profiled accepted still => exact h.congr rfl rfl rfl rfl rfl rfl
  | mapped still fits =>
    obtain ⟨hr, hp, hnone, he⟩ := h.still still
    exact Service.lifecycleLaw_of_still rfl hr hp hnone he (Nat.zero_le _)
  | unmapped idle =>
    obtain ⟨hr, hp, hnone, he⟩ := h.still (by rw [idle]; rfl)
    exact Service.lifecycleLaw_of_still rfl hr hp hnone he hlength
  | kept =>
    refine sv.afterReset_unitsCleared.lifecycleLaw ?_
    unfold Service.afterReset
    dsimp only
    split <;> rfl
  | loaded payload => exact (LoadedService.unitsCleared (.inl rfl)).lifecycleLaw rfl
  | factory => exact (LoadedService.unitsCleared (.inl rfl)).lifecycleLaw rfl

/-! ### The feed in use after a decision (R146) -/

theorem Lifecycle.ne_vacant_of_running {l : Lifecycle} (h : l.running = true) : l ≠ .vacant := by
  rintro rfl
  cases h

/-- AUTO takes RESERVE only at a rank above ABSENT (R148, R149). -/
theorem Feeds.decideAuto_reserve {f : Feeds} {p : Profile} {run : Nat} {main reserve : Rank}
    (h : (f.decided (decideAuto p f.inUse run main reserve)).inUse = .reserve) :
    f.inUse = .reserve ∨ reserve ≠ .absent := by
  refine or_iff_not_imp_left.mpr fun hmain habsent => hmain ?_
  subst habsent
  unfold decideAuto at h
  dsimp only at h
  split at h
  · next hlt =>
    cases hu : f.inUse with
    | reserve => rfl
    | main =>
      rw [hu] at hlt
      exact absurd hlt (Nat.not_lt_zero _)
  split at h
  · cases h
  split at h <;> exact h

/-- A forced mode leaves its own feed in use (R150, R153). -/
theorem Feeds.decideForced_inUse (f : Feeds) (forced : Feed) (rank : Rank) :
    (f.decided (decideForced forced f.inUse rank)).inUse = forced := by
  unfold decideForced
  split
  · split
    · next hsame => exact hsame
    · rfl
  · rfl

/-- The exit check takes RESERVE only at a rank above ABSENT (R154). -/
theorem Feeds.exitCheck_reserve {f : Feeds} {main reserve : Rank}
    (h : (f.decided (exitCheck f.mode main reserve)).inUse = .reserve) : f.inUse = .reserve ∨ reserve ≠ .absent := by
  refine or_iff_not_imp_left.mpr fun hmain habsent => hmain ?_
  subst habsent
  unfold exitCheck at h
  split at h
  · split at h
    · cases h
    · exact h
  · split at h
    · cases h
    · exact h
  · exact h

/-- A feed without monitor is ABSENT (R145, R159). -/
theorem Service.reserveMonitor_isSome {sv : Service} {usable : Bool} (h : sv.reserveRank usable ≠ .absent) :
    sv.feeds.reserveMonitor.isSome = true := by
  unfold Service.reserveRank at h
  cases hm : sv.feeds.reserveMonitor with
  | none => rw [hm] at h; exact absurd rfl h
  | some m => rfl

/-- A feed stage leaves RESERVE in use only where it was, where the mode forces it, or where it has a monitor. -/
theorem Service.inUse_of_feedDecision {sv : Service} {l : Lifecycle} {a b : Bool}
    (h : (sv.feeds.decided (sv.feedDecision l a b)).inUse = .reserve) :
    sv.feeds.inUse = .reserve ∨ sv.feeds.mode = .forceReserve ∨ sv.feeds.reserveMonitor.isSome = true := by
  have hrank : ∀ {p : Prop}, p ∨ sv.reserveRank b ≠ .absent →
      p ∨ sv.feeds.mode = .forceReserve ∨ sv.feeds.reserveMonitor.isSome = true :=
    fun hp => hp.imp_right fun hr => .inr (Service.reserveMonitor_isSome hr)
  unfold Service.feedDecision at h
  cases l with
  | vacant | idle | halting => exact .inl h
  | dropped => exact hrank (Feeds.exitCheck_reserve h)
  | priming | active | bypass =>
    dsimp only at h
    cases hmode : sv.feeds.mode with
    | auto =>
      rw [hmode] at h
      exact (hrank (Feeds.decideAuto_reserve h)).imp_right fun hr => .inr (hr.resolve_left (by simp [hmode]))
    | forceMain =>
      rw [hmode] at h
      cases (sv.feeds.decideForced_inUse .main _).symm.trans h
    | forceReserve => exact .inr (.inl rfl)

/-- So does a whole close. -/
theorem Service.inUse_of_close {sv : Service} {a b : Bool} {w : Word32}
    (h : (sv.close a b w).service.feeds.inUse = .reserve) :
    sv.feeds.inUse = .reserve ∨ sv.feeds.mode = .forceReserve ∨ sv.feeds.reserveMonitor.isSome = true := by
  have hstage : (sv.close a b w).service.feeds.inUse =
      ((sv.monitored a b w).feeds.decided (sv.decision a b w)).inUse :=
    Service.lifecycleStage_inUse _ _ _ _
  rw [hstage, Service.decision] at h
  split at h
  · simpa using Service.inUse_of_feedDecision h
  · rw [← sv.monitored_inUse a b w]
    exact .inl h

/-! ### The feed law (R140, R146) -/

namespace Service.FeedLaw

variable {sv sv' : Service} (h : sv.FeedLaw)
include h

/-- A record that keeps its map and its monitors keeps the law while the feed in use and the mode ask no more of the map. -/
theorem of_monitors (hv : sv'.lifecycle = .vacant ↔ sv.lifecycle = .vacant) (hr : sv'.reserveMapped = sv.reserveMapped)
    (huse : sv'.feeds.inUse = .reserve → sv.reserveMapped = true)
    (hmode : sv'.feeds.mode = .forceReserve → sv.reserveMapped = true)
    (hreserve : sv'.feeds.reserveMonitor.isSome = sv.feeds.reserveMonitor.isSome)
    (hmain : sv'.feeds.mainMonitor.isSome = sv.feeds.mainMonitor.isSome) : sv'.FeedLaw := by
  obtain ⟨hvacant, -, -, hmonitor, hmainMonitor⟩ := h
  unfold Service.FeedLaw
  rw [hv, hr, hreserve, hmain]
  exact ⟨hvacant, huse, hmode, hmonitor, by rw [ne_eq, hv]; exact hmainMonitor⟩

/-- In particular, when it leaves the feeds alone. -/
theorem of_feeds (hv : sv'.lifecycle = .vacant ↔ sv.lifecycle = .vacant) (hr : sv'.reserveMapped = sv.reserveMapped)
    (hfeeds : sv'.feeds = sv.feeds) : sv'.FeedLaw := by
  obtain ⟨-, huse, hmode, -⟩ := id h
  exact h.of_monitors hv hr (by rwa [hfeeds]) (by rwa [hfeeds]) (by rw [hfeeds]) (by rw [hfeeds])

/-- So does one that leaves the feeds alone between running states. -/
theorem of_running (hbefore : sv.lifecycle.running = true) (hafter : sv'.lifecycle.running = true)
    (hr : sv'.reserveMapped = sv.reserveMapped) (hfeeds : sv'.feeds = sv.feeds) : sv'.FeedLaw :=
  h.of_feeds (iff_of_false (Lifecycle.ne_vacant_of_running hafter) (Lifecycle.ne_vacant_of_running hbefore)) hr hfeeds

/-- A close (R146). -/
theorem close (hr : sv.lifecycle.running = true) (a b : Bool) (w : Word32) : (sv.close a b w).service.FeedLaw := by
  obtain ⟨-, huse, hmode, hmonitor, -⟩ := id h
  have hvacant : (sv.close a b w).service.lifecycle ≠ .vacant := by
    rcases Service.close_lifecycle hr a b w with hl | hl
    · exact Lifecycle.ne_vacant_of_running hl
    · rw [hl]; decide
  refine h.of_monitors (iff_of_false hvacant (Lifecycle.ne_vacant_of_running hr)) (Service.close_reserveMapped _ _ _ _)
    (fun hu => ?_) ?_ ?_ ?_
  · rcases Service.inUse_of_close hu with hu | hm | hs
    · exact huse hu
    · exact hmode hm
    · exact hmonitor.symm.trans hs
  · simpa [Service.close_service, Service.decided] using hmode
  · simp [Service.close_service, Service.decided]
  · simp [Service.close_service, Service.decided]

end Service.FeedLaw

/-- The feed units of a service that has a map, in their state after a Map or a Start (R140, R161). -/
theorem Service.feedLaw_of_cleared {sv : Service} {mode : SelectionMode} (hv : sv.lifecycle ≠ .vacant)
    (hfeeds : sv.feeds = { Feeds.cleared sv.reserveMapped with mode := mode })
    (hmode : mode = .forceReserve → sv.reserveMapped = true) : sv.FeedLaw := by
  unfold Service.FeedLaw
  rw [hfeeds]
  refine ⟨fun hl => absurd hl hv, by simp [Feeds.cleared], hmode, ?_, by simp [Feeds.cleared, hv]⟩
  cases hr : sv.reserveMapped <;> simp [Feeds.cleared]

/-- Those of a VACANT service (R31, R161). -/
theorem Service.feedLaw_of_vacant {sv : Service} (hv : sv.lifecycle = .vacant) (hr : sv.reserveMapped = false)
    (hfeeds : sv.feeds = Feeds.vacant) : sv.FeedLaw := by
  unfold Service.FeedLaw
  rw [hfeeds, hr, hv]
  simp [Feeds.vacant]

theorem Service.FeedLaw.afterReset {sv : Service} (h : sv.FeedLaw) : sv.afterReset.FeedLaw := by
  by_cases hv : sv.lifecycle = .vacant
  · obtain ⟨hvacant, -⟩ := h
    exact Service.feedLaw_of_vacant (if_pos hv) (hvacant hv) (if_pos hv)
  · have hidle : sv.afterReset.lifecycle = .idle := if_neg hv
    exact Service.feedLaw_of_cleared (mode := .auto) (by rw [hidle]; decide) (if_neg hv) (by simp)

theorem Service.mapped_feedLaw (sv : Service) (layout : Layout) (channels : List ChannelMap) :
    (sv.mapped layout channels).FeedLaw := by
  refine Service.feedLaw_of_cleared (by simp [Service.mapped]) rfl fun hmode => ?_
  split at hmode
  · cases hmode
  · next hnot => exact Bool.eq_true_of_not_eq_false fun hr => hnot ⟨hmode, hr⟩

theorem Service.FeedLaw.changed {sv sv' : Service} (hc : Service.Change sv sv') (h : sv.FeedLaw) : sv'.FeedLaw := by
  obtain ⟨-, huse, hmode, -⟩ := id h
  cases hc with
  | framed i slotsA slotsB =>
    unfold Service.atFrame
    split
    · exact h.of_monitors Iff.rfl rfl huse hmode Option.isSome_map Option.isSome_map
    · exact h
  | closed usableA usableB stamp running => exact h.close running _ _ _
  | started entry idle => exact Service.feedLaw_of_cleared (mode := .auto) (by simp [Service.started]) rfl (by simp)
  | bypassLeft bypass => exact h.of_running (by rw [bypass]; rfl) (Resume.lifecycle_running _) rfl rfl
  | resumeLeft dropped bypass => exact h.of_feeds Iff.rfl rfl rfl
  | halted running => exact h.of_running running rfl rfl rfl
  | bypassed live => exact h.of_running (by rcases live with hl | hl <;> rw [hl] <;> rfl) rfl rfl rfl
  | bypassWaiting dropped => exact h.of_feeds Iff.rfl rfl rfl
  | marked regain running => exact h.of_feeds Iff.rfl rfl rfl
  | restarted running => exact h.of_running running (sv.restarted_holding.running.trans running) rfl rfl
  | selected mode mapped => exact h.of_monitors Iff.rfl rfl huse mapped rfl rfl
  | profilePending accepted running => exact h.of_feeds Iff.rfl rfl rfl
  | profiled accepted still => exact h.of_feeds Iff.rfl rfl rfl
  | mapped still fits => exact sv.mapped_feedLaw _ _
  | unmapped idle => exact Service.feedLaw_of_vacant rfl rfl rfl
  | kept => exact h.afterReset
  | loaded payload => exact Service.feedLaw_of_vacant rfl rfl rfl
  | factory => exact Service.feedLaw_of_vacant rfl rfl rfl

/-- Settles O57: each law is kept by every change of a record, and a step is a series of changes. -/
theorem lifecycleAndFeedLawsKept : Obligations.LifecycleAndFeedLawsKept :=
  ⟨fun _ _ h hstep => (step_changes hstep).keep Service.LifecycleLaw.changed h,
    fun _ _ h hstep => (step_changes hstep).keep Service.FeedLaw.changed h⟩

end Sys2Proof.Machine
end

section
/-! PROOF. START, HALT and BYPASS in every state (R36 to R41), and the UNIT refusals of the requests to a service (R36, R86,
R156): O37, O38 and O41. -/

namespace Sys2Proof.Machine

/-! ### Served requests to a service -/

section
variable {s : State} {kind : Byte} {f : ControlFrame} {rest : List ControlFrame} {n : ServiceIndex} {a : Answer}
  {act : ServiceIndex → ControlFrame → State → State × Answer} (h : Serving s kind f rest)
  (hu : f.unit = BitVec.ofNat 8 n.val)
include h hu

/-- A request to service `n` whose rule leaves the part alone is answered so (R168). -/
theorem serve_service_unchanged (hact : act n f s.dequeued = (s.dequeued, a)) :
    serve kind (onService act) s =
      s.answered rest { kind := kind ||| 0x80, tag := f.tag, unit := f.unit, payload := a.status.code :: a.detail }
        .ordinary :=
  serve_answered h ((onService_of_unit hu _).trans hact) rfl rfl

/-- One whose rule writes the record. -/
theorem serve_service_written {sv : Service} (hact : act n f s.dequeued = (s.dequeued.setService n sv, a)) :
    serve kind (onService act) s =
      (s.setService n sv).answered rest
        { kind := kind ||| 0x80, tag := f.tag, unit := f.unit, payload := a.status.code :: a.detail } .ordinary :=
  serve_answered h ((onService_of_unit hu _).trans hact) rfl rfl

/-- One whose rule writes the record and commits units. -/
theorem serve_service_committed {sv : Service} {units : Nat}
    (hact : act n f s.dequeued = ((s.dequeued.setService n sv).withCommitted units, a)) :
    serve kind (onService act) s =
      ((s.setService n sv).withCommitted units).answered rest
        { kind := kind ||| 0x80, tag := f.tag, unit := f.unit, payload := a.status.code :: a.detail } .ordinary :=
  serve_answered h ((onService_of_unit hu _).trans hact) rfl rfl

end

/-- A request to a unit that is no service is refused with UNIT (R36, R86, R156). -/
theorem serve_no_service_answered {s : State} {kind : Byte} {f : ControlFrame} {rest : List ControlFrame}
    {act : ServiceIndex → ControlFrame → State → State × Answer} (h : Serving s kind f rest)
    (hu : ∀ n : ServiceIndex, f.unit ≠ BitVec.ofNat 8 n.val) :
    serve kind (onService act) s =
      s.answered rest { kind := kind ||| 0x80, tag := f.tag, unit := f.unit, payload := [0x03] } .ordinary :=
  serve_answered (t := s) h (onService_of_no_service hu _) rfl rfl

theorem no_service_of_unit {unit : Byte} (h : 16 ≤ unit.toNat) (n : ServiceIndex) : unit ≠ BitVec.ofNat 8 n.val := by
  rintro rfl
  simp only [BitVec.toNat_ofNat] at h
  omega

/-- Settles O41: the four commands differ in their kind alone. -/
theorem serviceRequestsRefuseOtherUnits : Obligations.ServiceRequestsRefuseOtherUnits := by
  intro s f rest kind c h hc hu
  have hrefused : ∀ act, serve kind (onService act) s =
      s.answered rest { kind := kind ||| 0x80, tag := f.tag, unit := f.unit, payload := [0x03] } .ordinary :=
    fun act => serve_no_service_answered h (no_service_of_unit hu)
  simp only [List.mem_cons, Prod.mk.injEq, List.not_mem_nil, or_false] at hc
  rcases hc with ⟨rfl, rfl⟩ | ⟨rfl, rfl⟩ | ⟨rfl, rfl⟩ | ⟨rfl, rfl⟩
  · exact congrArg Host.Outcome.next (hrefused haltAct)
  · exact congrArg Host.Outcome.next (hrefused bypassAct)
  · exact congrArg Host.Outcome.next (hrefused markAct)
  · exact congrArg Host.Outcome.next (hrefused selectAct)

/-! ### The rule of Start (R36 to R39) -/

section
variable {n : ServiceIndex} {f : ControlFrame} {s : State} {sv : Service} (hs : s.service n = sv)
include hs

theorem startAct_of_capacity (hl : sv.lifecycle = .idle) (hp : f.payload = []) (hc : 96 < s.committed + sv.cost) :
    startAct n f s = (s, { status := .capacity, detail := [byteOf sv.cost, byteOf (96 - s.committed)] }) := by
  simp [startAct, hs, hl, hp, hc, State.unitsFree]

theorem startAct_of_idle (hl : sv.lifecycle = .idle) (hp : f.payload = []) (hc : s.committed + sv.cost ≤ 96) :
    startAct n f s =
      ((s.setService n (sv.started true)).withCommitted (s.committed + sv.cost), stateOk (sv.started true)) := by
  simp [startAct, hs, hl, hp, Nat.not_lt.mpr hc, State.withCommitted]

theorem startAct_of_bypass (hl : sv.lifecycle = .bypass) (hp : f.payload = []) :
    startAct n f s =
      (s.setService n { sv with lifecycle := (afterBypass sv).lifecycle },
        Answer.ok [(afterBypass sv).lifecycle.code, resumeCode sv.resume]) := by
  simp [startAct, hs, hl, hp, stateOk]

theorem startAct_of_resume_bypass (hl : sv.lifecycle = .dropped) (hr : sv.resume = some .bypass) (hp : f.payload = []) :
    startAct n f s =
      (s.setService n { sv with resume := some (afterBypass sv) },
        Answer.ok [5, (afterBypass sv).lifecycle.code]) := by
  simp [startAct, hs, hl, hr, hp, stateOk, Lifecycle.code, resumeCode]

theorem startAct_of_length (h : sv.lifecycle = .idle ∨ sv.lifecycle = .bypass ∨
    sv.lifecycle = .dropped ∧ sv.resume = some .bypass) (hp : f.payload ≠ []) : startAct n f s = (s, Answer.length f) := by
  rcases h with hl | hl | ⟨hl, hr⟩
  · simp [startAct, hs, hl, hp]
  · simp [startAct, hs, hl, hp]
  · simp [startAct, hs, hl, hr, hp]

theorem startAct_of_state (hi : sv.lifecycle ≠ .idle)
    (h : ¬(sv.lifecycle = .bypass ∨ sv.lifecycle = .dropped ∧ sv.resume = some .bypass)) :
    startAct n f s = (s, stateRefusal sv) := by
  unfold startAct
  rw [hs]
  dsimp only
  split
  · next hl => exact absurd hl hi
  · next hl => exact absurd (.inl hl) h
  · next hl hr => exact absurd (.inr ⟨hl, hr⟩) h
  · rfl

end

theorem afterBypass_eq (sv : Service) : afterBypass sv = if sv.meas.ring.length = 30 then .active else .priming := rfl

theorem afterBypass_lifecycle (sv : Service) :
    (afterBypass sv).lifecycle = if sv.meas.ring.length = 30 then .active else .priming := by
  rw [afterBypass_eq]
  split <;> rfl

theorem afterBypass_code (sv : Service) :
    (afterBypass sv).lifecycle.code = if sv.meas.ring.length = 30 then 3 else 2 := by
  rw [afterBypass_eq]
  split <;> rfl

namespace Settled

/-- Settles O37: each clause is one branch of `startAct`, served. -/
theorem startRequest : Obligations.StartRequest := by
  refine ⟨fun s f rest n sv h hu hs hl hp => ⟨fun hc => ?capacity, fun hc => ?started⟩,
    fun s f rest h => ⟨fun hu => ?unit, fun n sv hu hs => ⟨fun hi hn => ?state, fun hl hp => ?length,
      fun hp hl => ?bypass, fun hp hl hr => ?resume⟩⟩⟩ <;> refine congrArg Host.Outcome.next ?_
  case capacity => exact serve_service_unchanged h hu (startAct_of_capacity (s := s.dequeued) hs hl hp hc)
  case started => exact serve_service_committed h hu (startAct_of_idle (s := s.dequeued) hs hl hp hc)
  case unit => exact serve_no_service_answered h hu
  case state => exact serve_service_unchanged h hu (startAct_of_state (s := s.dequeued) hs hi hn)
  case length => exact serve_service_unchanged h hu (startAct_of_length (s := s.dequeued) hs hl hp)
  case bypass =>
    rw [← afterBypass_lifecycle, ← afterBypass_code]
    exact serve_service_written h hu (startAct_of_bypass (s := s.dequeued) hs hl hp)
  case resume =>
    rw [← afterBypass_eq, ← afterBypass_code]
    exact serve_service_written h hu (startAct_of_resume_bypass (s := s.dequeued) hs hl hr hp)

end Settled

/-! ### The rules of Halt and Bypass (R36, R40, R41) -/

section
variable {n : ServiceIndex} {f : ControlFrame} {s : State} {sv : Service} (hs : s.service n = sv)
include hs

theorem haltAct_of_vacant (hl : sv.lifecycle = .vacant) :
    haltAct n f s = (s, { status := .state, detail := [0, resumeCode sv.resume] }) := by
  simp [haltAct, hs, hl, stateRefusal, Lifecycle.code]

theorem haltAct_of_length (hl : sv.lifecycle ≠ .vacant) (hp : f.payload ≠ []) :
    haltAct n f s = (s, Answer.length f) := by
  simp [haltAct, hs, hl, hp]

/-- A service that has halted, or halts, stays so. -/
theorem haltAct_of_halted (hl : sv.lifecycle = .idle ∨ sv.lifecycle = .halting) (hp : f.payload = []) :
    haltAct n f s = (s, stateOk sv) := by
  have hv : sv.lifecycle ≠ .vacant := by rcases hl with hl | hl <;> rw [hl] <;> decide
  simp [haltAct, hs, hl, hv, hp]

theorem haltAct_of_live (hl : sv.lifecycle = .priming ∨ sv.lifecycle = .active ∨ sv.lifecycle = .bypass ∨
    sv.lifecycle = .dropped) (hp : f.payload = []) :
    haltAct n f s =
      (s.setService n { sv with lifecycle := .halting, resume := none, haltPhase := some .halt },
        Answer.ok [6, 0xFF]) := by
  rcases hl with hl | hl | hl | hl <;> simp [haltAct, hs, hl, hp, stateOk, Lifecycle.code, resumeCode]

theorem bypassAct_of_state (hl : sv.lifecycle = .vacant ∨ sv.lifecycle = .idle ∨ sv.lifecycle = .halting) :
    bypassAct n f s = (s, stateRefusal sv) := by
  rcases hl with hl | hl | hl <;> simp [bypassAct, hs, hl]

theorem bypassAct_of_length (hl : sv.lifecycle = .priming ∨ sv.lifecycle = .active ∨ sv.lifecycle = .bypass ∨
    sv.lifecycle = .dropped) (hp : f.payload ≠ []) : bypassAct n f s = (s, Answer.length f) := by
  rcases hl with hl | hl | hl | hl <;> simp [bypassAct, hs, hl, hp]

/-- A service that is bypassed already stays so: its record is written as it stands. -/
theorem bypassAct_of_live (hl : sv.lifecycle = .priming ∨ sv.lifecycle = .active ∨ sv.lifecycle = .bypass)
    (hp : f.payload = []) :
    bypassAct n f s =
      (s.setService n { sv with lifecycle := .bypass }, Answer.ok [4, resumeCode sv.resume]) := by
  rcases hl with hl | hl | hl
  · simp [bypassAct, hs, hl, hp, stateOk, Lifecycle.code]
  · simp [bypassAct, hs, hl, hp, stateOk, Lifecycle.code]
  · have hsame : s.setService n { sv with lifecycle := .bypass } = s := by
      rw [← hl, ← hs]
      exact s.setService_self n
    rw [hsame]
    simp [bypassAct, hs, hl, hp, stateOk, Lifecycle.code]

theorem bypassAct_of_dropped (hl : sv.lifecycle = .dropped) (hp : f.payload = []) :
    bypassAct n f s = (s.setService n { sv with resume := some .bypass }, Answer.ok [5, 4]) := by
  simp [bypassAct, hs, hl, hp, stateOk, Lifecycle.code, resumeCode, Resume.lifecycle]

end

/-- Settles O38: each clause is one branch of `haltAct` or `bypassAct`, served. -/
theorem haltAndBypass : Obligations.HaltAndBypass := by
  intro s f rest n sv hu hs
  refine ⟨fun h => ⟨fun hl => ?haltVacant, fun hl hp => ?haltLength, fun hp hl => ?halted, fun hp hl => ?halt⟩,
    fun h => ⟨fun hl => ?bypassState, fun hl hp => ?bypassLength, fun hp hl => ?bypass, fun hp hl => ?waiting⟩⟩ <;>
    refine congrArg Host.Outcome.next ?_
  case haltVacant => exact serve_service_unchanged h hu (haltAct_of_vacant (s := s.dequeued) hs hl)
  case haltLength => exact serve_service_unchanged h hu (haltAct_of_length (s := s.dequeued) hs hl hp)
  case halted => exact serve_service_unchanged h hu (haltAct_of_halted (s := s.dequeued) hs hl hp)
  case halt => exact serve_service_written h hu (haltAct_of_live (s := s.dequeued) hs hl hp)
  case bypassState => exact serve_service_unchanged h hu (bypassAct_of_state (s := s.dequeued) hs hl)
  case bypassLength => exact serve_service_unchanged h hu (bypassAct_of_length (s := s.dequeued) hs hl hp)
  case bypass => exact serve_service_written h hu (bypassAct_of_live (s := s.dequeued) hs hl hp)
  case waiting => exact serve_service_written h hu (bypassAct_of_dropped (s := s.dequeued) hs hl hp)

end Sys2Proof.Machine
end

section
/-! PROOF. Autostart of one service (R55, R56): O49. -/

namespace Sys2Proof.Machine

section
variable {s : State} {n : ServiceIndex} {sv : Service} (hs : s.service n = sv)
include hs

theorem State.autostart_of_fits (hl : sv.lifecycle = .idle) (ha : sv.profile.autostart = true)
    (hc : s.committed + sv.cost ≤ 96) :
    s.autostart n =
      ((s.setService n (sv.started false)).withCommitted (s.committed + sv.cost)).raise (.service n)
        (.state .priming none .autostart 0 0) := by
  simp [State.autostart, hs, hl, ha, hc, State.withCommitted]

theorem State.autostart_of_capacity (hl : sv.lifecycle = .idle) (ha : sv.profile.autostart = true)
    (hc : 96 < s.committed + sv.cost) :
    s.autostart n = s.raise (.service n) (.state .idle none .capacity sv.cost (96 - s.committed)) := by
  simp [State.autostart, hs, hl, ha, Nat.not_le.mpr hc, State.unitsFree]

theorem State.autostart_of_neither (h : sv.lifecycle ≠ .idle ∨ sv.profile.autostart = false) : s.autostart n = s := by
  have hnot : ¬(sv.lifecycle = .idle ∧ sv.profile.autostart = true) := fun ⟨hl, ha⟩ =>
    h.elim (fun hne => hne hl) fun hf => by rw [hf] at ha; cases ha
  rw [State.autostart, hs]
  exact if_neg hnot

end

namespace Settled

/-- Settles O49: the three branches of `State.autostart`. -/
theorem autostart : Obligations.Autostart := by
  intro s n sv hs
  refine ⟨fun hl ha hc => ⟨sv.started false, State.autostart_of_fits hs hl ha hc, rfl, rfl, rfl, rfl, rfl, rfl⟩,
    State.autostart_of_capacity hs, State.autostart_of_neither hs⟩

end Settled

end Sys2Proof.Machine
end

section
/-! PROOF. The logarithms rounded by whole-number comparisons are the real ones rounded to nearest (R68, R134, R141): O12. -/

namespace Sys2Proof.Machine

/-- Where a test holds up to `m` and no further, the climb ends at `m`, or at its start when that is higher. -/
theorem climb_eq_max {test : Int → Bool} {m : Int} (bits : Nat) {v : Int} (htest : ∀ k, v < k → (test k = true ↔ k ≤ m))
    (hm : m < v + 2 ^ bits) : climb test bits v = max v m := by
  induction bits generalizing v with
  | zero =>
    unfold climb
    omega
  | succ bits ih =>
    have hpow : (2 : Int) ^ (bits + 1) = 2 ^ bits + 2 ^ bits := by ring
    have hpos : (0 : Int) < 2 ^ bits := by positivity
    have hmid := htest (v + 2 ^ bits) (by omega)
    unfold climb
    split
    · next h =>
      rw [ih (fun k hk => htest k (by omega)) (by omega)]
      have := hmid.mp h
      omega
    · next h =>
      have : ¬v + 2 ^ bits ≤ m := fun hle => h (hmid.mpr hle)
      exact ih htest (by omega)

/-- The comparison of `tenPowLe` is one of logarithms. -/
theorem tenPowLe_iff {x : Rat} (hx : 0 < x) (e : Int) (n : Nat) :
    tenPowLe e x n = true ↔ (e : ℝ) ≤ n * Real.logb 10 (x : ℝ) := by
  have hxr : (0 : ℝ) < (x : ℝ) := by exact_mod_cast hx
  have hden : (0 : ℝ) < (x.den : ℝ) ^ n := pow_pos (by exact_mod_cast x.den_pos) n
  have hnum : ((x.num.toNat : ℕ) : ℝ) = (x.num : ℝ) := by
    exact_mod_cast Int.toNat_of_nonneg (Rat.num_pos.mpr hx).le
  have hpow : (x : ℝ) ^ n = (x.num.toNat : ℝ) ^ n / (x.den : ℝ) ^ n := by
    rw [hnum, ← div_pow, ← Rat.cast_def]
  rw [← Real.logb_pow, Real.le_logb_iff_rpow_le (by norm_num) (pow_pos hxr n), Real.rpow_intCast, hpow, le_div_iff₀ hden]
  unfold tenPowLe
  split
  · next he =>
    lift e to ℕ using he
    rw [decide_eq_true_iff, zpow_natCast, Int.toNat_natCast]
    exact_mod_cast Iff.rfl
  · next he =>
    obtain ⟨m, rfl⟩ : ∃ m : ℕ, e = -m := ⟨(-e).toNat, by omega⟩
    rw [decide_eq_true_iff, zpow_neg, zpow_natCast, inv_mul_le_iff₀ (by positivity), neg_neg, Int.toNat_natCast, mul_comm]
    exact_mod_cast Iff.rfl

theorem tenPowLe_zero (e : Int) {n : Nat} (hn : n ≠ 0) : tenPowLe e 0 n = false := by
  simp [tenPowLe, hn]

/-- `logRound` is the whole part of `(n·log10 x − b) / a`, clamped to its range. -/
theorem logRound_eq {n : Nat} {a b lo hi : Int} {x : Rat} (hx : 0 < x) (ha : 0 < a) (hhi : hi < lo + 2 ^ 14) :
    logRound n a b lo hi x = max lo (min hi ⌊(n * Real.logb 10 (x : ℝ) - b) / a⌋) := by
  refine climb_eq_max 14 (fun k _ => ?_) (by omega)
  have har : (0 : ℝ) < a := by exact_mod_cast ha
  rw [Bool.and_eq_true, decide_eq_true_iff, tenPowLe_iff hx, le_min_iff, Int.le_floor, le_div_iff₀ har, le_sub_iff_add_le,
    mul_comm a]
  push_cast
  rfl

/-- A power of 0 has no logarithm, and gives the lower end of the range. -/
theorem logRound_zero {n : Nat} (hn : n ≠ 0) (a b lo hi : Int) : logRound n a b lo hi 0 = lo := by
  refine (climb_eq_max (m := lo) 14 (fun k hk => ?_) (by omega)).trans (max_self lo)
  simp [tenPowLe_zero _ hn, hk]

/-! ### The three conversions -/

theorem abs_round_sub_le (y : ℝ) : |(round y : ℝ) - y| ≤ 1 / 2 := by
  rw [abs_sub_comm]
  exact abs_sub_round y

theorem conv_eq {p : Rat} (hp : 0 < p) :
    conv p = max (-12000) (min 1000 (round (1000 * Real.logb 10 (p : ℝ) - 69.1))) := by
  rw [conv, logRound_eq hp (by norm_num) (by norm_num), round_eq]
  congr 3
  push_cast
  ring_nf

theorem feedLevel_eq {m : Rat} (hm : 0 < m) :
    feedLevel m = max (-12000) (min 0 (round (1000 * Real.logb 10 (m : ℝ)))) := by
  rw [feedLevel, logRound_eq hm (by norm_num) (by norm_num), round_eq]
  congr 3
  push_cast
  ring_nf

theorem reductionOf_eq {h : Int} (hh : 0 < h) :
    reductionOf h = max 0 (min 12041 (round (-(2000 * Real.logb 10 ((h : ℝ) / 2 ^ 20))))) := by
  have hx : (0 : Rat) < 1048576 / h := div_pos (by norm_num) (by exact_mod_cast hh)
  have hinv : (((1048576 / h : Rat)) : ℝ) = ((h : ℝ) / 2 ^ 20)⁻¹ := by
    rw [inv_div]
    push_cast
    norm_num
  rw [reductionOf, logRound_eq hx (by norm_num) (by norm_num), round_eq, hinv, Real.logb_inv]
  congr 3
  push_cast
  ring_nf

/-! ### The greatest reduction (R134) -/

/-- `log10 2 < 146/485`. -/
theorem logb_two_lt : Real.logb 10 2 < 146 / 485 := by
  have hpow : (2 : ℝ) ^ 485 < 10 ^ 146 := by
    exact_mod_cast (by decide +kernel : (2 : ℕ) ^ 485 < 10 ^ 146)
  have hlog := Real.logb_lt_logb (b := 10) (by norm_num) (by positivity) hpow
  rw [Real.logb_pow, Real.logb_pow, Real.logb_self_eq_one (by norm_num)] at hlog
  push_cast at hlog
  linarith

/-- A least gain of 1 to 2^20 has a reduction within 0 to 12,041. -/
theorem reduction_range {h : Int} (h1 : 1 ≤ h) (h2 : h ≤ 1048576) :
    0 ≤ -(2000 * Real.logb 10 ((h : ℝ) / 2 ^ 20)) ∧ -(2000 * Real.logb 10 ((h : ℝ) / 2 ^ 20)) < 12041 + 1 / 2 := by
  have hr1 : (1 : ℝ) ≤ h := by exact_mod_cast h1
  have hr2 : (h : ℝ) ≤ 1048576 := by exact_mod_cast h2
  have htwo := logb_two_lt
  have hlog : Real.logb 10 ((h : ℝ) / 2 ^ 20) = Real.logb 10 h - 20 * Real.logb 10 2 := by
    rw [Real.logb_div (by linarith) (by positivity), Real.logb_pow]
    norm_num
  have hge : 0 ≤ Real.logb 10 (h : ℝ) := Real.logb_nonneg (by norm_num) hr1
  have hle : Real.logb 10 ((h : ℝ) / 2 ^ 20) ≤ 0 :=
    Real.logb_nonpos (by norm_num) (by positivity) (by rw [div_le_one (by positivity)]; linarith)
  constructor <;> linarith

theorem reductionOf_eq_round {h : Int} (h1 : 1 ≤ h) (h2 : h ≤ 1048576) :
    reductionOf h = round (-(2000 * Real.logb 10 ((h : ℝ) / 2 ^ 20))) := by
  obtain ⟨hlo, hhi⟩ := reduction_range h1 h2
  have hround0 : 0 ≤ round (-(2000 * Real.logb 10 ((h : ℝ) / 2 ^ 20))) := by
    rw [round_eq, Int.le_floor]
    push_cast
    linarith
  have hround1 : round (-(2000 * Real.logb 10 ((h : ℝ) / 2 ^ 20))) < 12042 := by
    rw [round_eq, Int.floor_lt]
    push_cast
    linarith
  rw [reductionOf_eq (by omega)]
  omega

/-- Settles O12: each conversion is `round` of its logarithm, clamped, and no reduction is beyond its range. -/
theorem logarithmsAreExact : Obligations.LogarithmsAreExact := by
  refine ⟨logRound_zero (by norm_num) .., logRound_zero (by norm_num) ..,
    fun p hp => ⟨_, abs_round_sub_le _, conv_eq hp⟩, fun m hm => ⟨_, abs_round_sub_le _, feedLevel_eq hm⟩,
    fun h h1 h2 => ?_⟩
  rw [reductionOf_eq_round h1 h2, ← sub_neg_eq_add]
  exact abs_round_sub_le _

end Sys2Proof.Machine
end

section
/-! PROOF. The bounds of a mean of centre powers, and conv of a mean that they decide (R68, R76, R78, R79). -/

namespace Sys2Proof.Machine

/-! ### conv of a power relative to bin 0 (R68, R76) -/

/-- conv of a real power given relative to bin 0, whose centre is −6995 cL. -/
noncomputable def relativeLoudness (x : ℝ) : Int :=
  max (-12000) (min 1000 (round (-6995 + 1000 * Real.logb 10 x)))

theorem convRelative_eq {x : Rat} (hx : 0 < x) : convRelative x = relativeLoudness x := by
  rw [convRelative, logRound_eq hx (by norm_num) (by norm_num), relativeLoudness, round_eq]
  congr 3
  push_cast
  ring_nf

theorem relativeLoudness_mono {x y : ℝ} (hx : 0 < x) (hxy : x ≤ y) : relativeLoudness x ≤ relativeLoudness y := by
  have hlog : Real.logb 10 x ≤ Real.logb 10 y := Real.logb_le_logb_of_le (by norm_num) hx hxy
  have hround : round (-6995 + 1000 * Real.logb 10 x) ≤ round (-6995 + 1000 * Real.logb 10 y) := by
    rw [round_eq, round_eq]
    exact Int.floor_le_floor (by linarith)
  unfold relativeLoudness
  omega

/-- The exact centre power of a bin relative to bin 0 (R78, log 10). -/
noncomputable def centrePower (b : Nat) : ℝ :=
  (10 : ℝ) ^ ((b : ℝ) / 100)

theorem one_le_centrePower (b : Nat) : 1 ≤ centrePower b :=
  Real.one_le_rpow (by norm_num) (by positivity)

theorem centrePower_pos (b : Nat) : 0 < centrePower b :=
  zero_lt_one.trans_le (one_le_centrePower b)

theorem centrePower_mono {b c : Nat} (h : b ≤ c) : centrePower b ≤ centrePower c :=
  Real.rpow_le_rpow_of_exponent_le (by norm_num) (by gcongr)

/-- A factor of 3999/4000 is less than half a cL. -/
theorem logb_near_one : -(1 / 2000) ≤ Real.logb 10 (3999 / 4000) := by
  have hten := Real.one_sub_inv_le_log_of_pos (x := 10) (by norm_num)
  have hnear := Real.one_sub_inv_le_log_of_pos (x := 3999 / 4000) (by norm_num)
  norm_num only at hten hnear
  rw [Real.logb, le_div_iff₀ (by linarith)]
  linarith

/-- A power at the centre of a bin, or below it by no more than one part in 4000, converts to the centre (R76). -/
theorem relativeLoudness_of_near_centre {b : Nat} (hb : b < 800) {x : ℝ} (hlow : 3999 / 4000 * centrePower b ≤ x)
    (hhigh : x ≤ centrePower b) : relativeLoudness x = binCentre b := by
  have hc := centrePower_pos b
  have hx : 0 < x := lt_of_lt_of_le (by positivity) hlow
  have hcentre : Real.logb 10 (centrePower b) = (b : ℝ) / 100 := Real.logb_rpow (by norm_num) (by norm_num)
  have hle : Real.logb 10 x ≤ (b : ℝ) / 100 := by
    rw [← hcentre]
    exact Real.logb_le_logb_of_le (by norm_num) hx hhigh
  have hge : (b : ℝ) / 100 - 1 / 2000 ≤ Real.logb 10 x := by
    have hlog := Real.logb_le_logb_of_le (b := 10) (by norm_num) (by positivity) hlow
    rw [Real.logb_mul (by norm_num) hc.ne', hcentre] at hlog
    linarith [logb_near_one]
  have hround : round (-6995 + 1000 * Real.logb 10 x) = binCentre b := by
    rw [round_eq, Int.floor_eq_iff, binCentre]
    push_cast
    constructor <;> linarith
  unfold relativeLoudness
  rw [hround, binCentre]
  omega

theorem relativeLoudness_centrePower {b : Nat} (hb : b < 800) : relativeLoudness (centrePower b) = binCentre b :=
  relativeLoudness_of_near_centre hb (by linarith [centrePower_pos b]) le_rfl

/-! ### The bounds of a centre power -/

/-- `binRoot` is the whole part of the scaled centre power. -/
theorem binRoot_eq {b : Nat} (hb : b < 800) (prec : Nat) : binRoot prec b = ⌊centrePower b * 2 ^ prec⌋₊ := by
  have hpos : 0 ≤ centrePower b * 2 ^ prec := by
    have := centrePower_pos b
    positivity
  have hroot : (centrePower b * 2 ^ prec) ^ 100 = ((10 ^ b * 2 ^ (100 * prec) : ℕ) : ℝ) := by
    have hcentre : centrePower b ^ 100 = 10 ^ b := by
      rw [centrePower, ← Real.rpow_natCast, ← Real.rpow_mul (by norm_num)]
      norm_num
    rw [mul_pow, hcentre, ← pow_mul, mul_comm prec]
    push_cast
    rfl
  have hbound : ⌊centrePower b * 2 ^ prec⌋₊ < 2 ^ (prec + 27) := by
    have hcentre : centrePower b ≤ 10 ^ (8 : ℝ) := by
      refine Real.rpow_le_rpow_of_exponent_le (by norm_num) ?_
      have : (b : ℝ) ≤ 800 := by exact_mod_cast hb.le
      linarith
    rw [Nat.floor_lt hpos, pow_add, mul_comm]
    push_cast
    gcongr
    exact hcentre.trans_lt (by norm_num)
  rw [binRoot, climb_eq_max (m := (⌊centrePower b * 2 ^ prec⌋₊ : ℕ)) _ (fun k hk => ?_) (by
    rw [zero_add]
    exact_mod_cast hbound)]
  · omega
  · lift k to ℕ using hk.le
    rw [decide_eq_true_iff, Int.toNat_natCast, Nat.cast_le, Nat.le_floor_iff hpos,
      ← pow_le_pow_iff_left₀ (Nat.cast_nonneg k) hpos (by norm_num : 100 ≠ 0), hroot]
    exact_mod_cast Iff.rfl

theorem binRoot_le {b : Nat} (hb : b < 800) (prec : Nat) : (binRoot prec b : ℝ) / 2 ^ prec ≤ centrePower b := by
  rw [div_le_iff₀ (by positivity), binRoot_eq hb]
  exact Nat.floor_le (mul_nonneg (centrePower_pos b).le (by positivity))

theorem le_binRoot_succ {b : Nat} (hb : b < 800) (prec : Nat) :
    centrePower b ≤ ((binRoot prec b : ℝ) + 1) / 2 ^ prec := by
  rw [le_div_iff₀ (by positivity), binRoot_eq hb]
  exact (Nat.lt_floor_add_one _).le

theorem binRoot_pos {b : Nat} (hb : b < 800) (prec : Nat) : 0 < binRoot prec b := by
  rw [binRoot_eq hb, Nat.floor_pos]
  exact one_le_mul_of_one_le_of_one_le (one_le_centrePower b) (one_le_pow₀ (by norm_num))

/-! ### The bounds of a mean (R78, R79) -/

/-- Bins of the histogram, each with blocks counted in it. -/
def CountedBins (occ : List (Nat × Nat)) : Prop :=
  ∀ e ∈ occ, e.1 < 800 ∧ 0 < e.2

/-- The exact mean centre power of some bins relative to bin 0. -/
noncomputable def meanPower (occ : List (Nat × Nat)) : ℝ :=
  (occ.map fun e => (e.2 : ℝ) * centrePower e.1).sum / ((countSum occ : Nat) : ℝ)

theorem meanBound_eq (up prec : Nat) (occ : List (Nat × Nat)) :
    ((meanBound up prec occ : Rat) : ℝ) =
      (occ.map fun e => (e.2 : ℝ) * (((binRoot prec e.1 : ℝ) + up) / 2 ^ prec)).sum / ((countSum occ : Nat) : ℝ) := by
  have hscaled : (fun e : Nat × Nat => (e.2 : ℝ) * (((binRoot prec e.1 : ℝ) + up) / 2 ^ prec)) =
      fun e => (e.2 : ℝ) * ((binRoot prec e.1 : ℝ) + up) * (2 ^ prec)⁻¹ := by
    funext e
    rw [div_eq_mul_inv, mul_assoc]
  rw [hscaled, List.sum_map_mul_right, meanBound]
  push_cast
  rw [List.map_map, div_mul_eq_div_div_swap, ← div_eq_mul_inv]
  simp [Function.comp_def]

section
variable {occ : List (Nat × Nat)} (hocc : CountedBins occ)
include hocc

theorem meanBound_zero_le (prec : Nat) : ((meanBound 0 prec occ : Rat) : ℝ) ≤ meanPower occ := by
  rw [meanBound_eq, meanPower]
  gcongr
  refine List.sum_le_sum fun e he => ?_
  simpa using mul_le_mul_of_nonneg_left (binRoot_le (hocc e he).1 prec) (Nat.cast_nonneg e.2)

theorem meanPower_le_meanBound_one (prec : Nat) : meanPower occ ≤ ((meanBound 1 prec occ : Rat) : ℝ) := by
  rw [meanBound_eq, meanPower]
  gcongr
  refine List.sum_le_sum fun e he => ?_
  simpa using mul_le_mul_of_nonneg_left (le_binRoot_succ (hocc e he).1 prec) (Nat.cast_nonneg e.2)

theorem countSum_pos (hne : occ ≠ []) : 0 < countSum occ :=
  List.sum_pos _ (by simpa using fun n b h => (hocc (b, n) h).2) (by simpa using hne)

theorem meanBound_zero_pos (hne : occ ≠ []) (prec : Nat) : 0 < meanBound 0 prec occ := by
  have hsum : 0 < (occ.map fun e => e.2 * (binRoot prec e.1 + 0)).sum := by
    refine List.sum_pos _ (fun x hx => ?_) (by simpa using hne)
    obtain ⟨e, he, rfl⟩ := List.mem_map.mp hx
    exact Nat.mul_pos (hocc e he).2 (binRoot_pos (hocc e he).1 prec)
  have hcount := countSum_pos hocc hne
  exact div_pos (by exact_mod_cast hsum) (by exact_mod_cast Nat.mul_pos hcount (by positivity))

theorem meanPower_pos (hne : occ ≠ []) : 0 < meanPower occ :=
  lt_of_lt_of_le (by exact_mod_cast meanBound_zero_pos hocc hne 0) (meanBound_zero_le hocc 0)

/-- Bounds that convert alike convert as the exact mean between them (log 11). -/
theorem convRelative_meanBound (hne : occ ≠ []) {prec : Nat}
    (h : convRelative (meanBound 0 prec occ) = convRelative (meanBound 1 prec occ)) :
    convRelative (meanBound 0 prec occ) = relativeLoudness (meanPower occ) := by
  have hlower := meanBound_zero_le hocc prec
  have hupper := meanPower_le_meanBound_one hocc prec
  have hmean := meanPower_pos hocc hne
  have hpos : 0 < meanBound 1 prec occ := by exact_mod_cast hmean.trans_le hupper
  have h0 := convRelative_eq (meanBound_zero_pos hocc hne prec)
  have h1 := convRelative_eq hpos
  apply le_antisymm
  · rw [h0]
    exact relativeLoudness_mono (by exact_mod_cast meanBound_zero_pos hocc hne prec) hlower
  · rw [h, h1]
    exact relativeLoudness_mono hmean hupper

end

theorem convMean_cons_cons (occ : List (Nat × Nat)) (prec second : Nat) (rest : List Nat) :
    convMean occ (prec :: second :: rest) =
      if convRelative (meanBound 0 prec occ) = convRelative (meanBound 1 prec occ) then convRelative (meanBound 0 prec occ)
      else convMean occ (second :: rest) := rfl

/-- A mean converts as its lower bound at some precision tried, one at which the bounds agree if there is any. -/
theorem convMean_mem (occ : List (Nat × Nat)) {precs : List Nat} (hne : precs ≠ []) :
    ∃ prec ∈ precs, convMean occ precs = convRelative (meanBound 0 prec occ) ∧
      ((∃ p ∈ precs, convRelative (meanBound 0 p occ) = convRelative (meanBound 1 p occ)) →
        convRelative (meanBound 0 prec occ) = convRelative (meanBound 1 prec occ)) := by
  induction precs with
  | nil => exact absurd rfl hne
  | cons prec rest ih =>
    cases rest with
    | nil => exact ⟨prec, List.mem_singleton_self _, rfl, by simp⟩
    | cons second rest =>
      rw [convMean_cons_cons]
      split
      · next hagree => exact ⟨prec, List.mem_cons_self .., rfl, fun _ => hagree⟩
      · next hdiffer =>
        obtain ⟨chosen, hmem, heq, hchosen⟩ := ih (List.cons_ne_nil _ _)
        refine ⟨chosen, List.mem_cons_of_mem _ hmem, heq, fun ⟨p, hp, hagree⟩ => ?_⟩
        rcases List.mem_cons.mp hp with rfl | hrest
        · exact absurd hagree hdiffer
        · exact hchosen ⟨p, hrest, hagree⟩

theorem precisions_ne_nil : precisions ≠ [] := by decide

/-- A decided mean converts as the exact one (R79). -/
theorem convMean_eq {occ : List (Nat × Nat)} (hocc : CountedBins occ) (hne : occ ≠ []) (h : MeanDecided occ) :
    convMean occ precisions = relativeLoudness (meanPower occ) := by
  obtain ⟨prec, -, heq, hagree⟩ := convMean_mem occ precisions_ne_nil
  rw [heq]
  exact convRelative_meanBound hocc hne (hagree h)

end Sys2Proof.Machine
end

section
/-! PROOF. Integrated loudness is conv of an exact mean of centre powers (R76, R79): the counted bins of a histogram, the
relative gate, which leaves the highest of them, and one counted bin; O13. -/

namespace Sys2Proof.Machine

/-! ### The counted bins of a histogram (R76) -/

theorem mem_occupied {counts : List Nat} {start : Nat} {e : Nat × Nat} (h : e ∈ occupied start counts) :
    e.1 < start + counts.length ∧ 0 < e.2 := by
  induction counts generalizing start with
  | nil => cases h
  | cons n ns ih =>
    have htail : e ∈ occupied (start + 1) ns → e.1 < start + (n :: ns).length ∧ 0 < e.2 := fun he => by
      obtain ⟨hb, hn⟩ := ih he
      exact ⟨by rw [List.length_cons]; omega, hn⟩
    rw [occupied] at h
    split at h
    · exact htail h
    · next hn =>
      rcases List.mem_cons.mp h with rfl | he
      · exact ⟨by rw [List.length_cons]; dsimp only; omega, Nat.pos_of_ne_zero hn⟩
      · exact htail he

/-- A sum over the counted bins is one over all bins, when an empty bin adds nothing. -/
theorem sum_occupied {g : Nat × Nat → ℝ} (hg : ∀ b, g (b, 0) = 0) (counts : List Nat) (start : Nat) :
    ((occupied start counts).map g).sum = ∑ i : Fin counts.length, g (start + i.val, counts[i]) := by
  induction counts generalizing start with
  | nil => rfl
  | cons n ns ih =>
    have hsum : ∑ i : Fin (n :: ns).length, g (start + i.val, (n :: ns)[i]) =
        g (start, n) + ((occupied (start + 1) ns).map g).sum := by
      rw [ih]
      refine (Fin.sum_univ_succ _).trans (congrArg (g (start, n) + ·) (Finset.sum_congr rfl fun i _ => ?_))
      simp [Nat.add_comm, Nat.add_left_comm]
    rw [hsum, occupied]
    split
    · next hn => rw [hn, hg, zero_add]
    · rw [List.map_cons, List.sum_cons]

theorem occupied_append (start : Nat) (before after : List Nat) :
    occupied start (before ++ after) = occupied start before ++ occupied (start + before.length) after := by
  induction before generalizing start with
  | nil => rfl
  | cons n ns ih =>
    have hlen : start + (n :: ns).length = start + 1 + ns.length := by rw [List.length_cons]; omega
    rw [List.cons_append, occupied, occupied, ih, hlen]
    split <;> rfl

theorem occupied_replicate_zero (start k : Nat) : occupied start (List.replicate k 0) = [] := by
  induction k generalizing start with
  | zero => rfl
  | succ k ih => rw [List.replicate_succ, occupied, if_pos rfl, ih]

/-- The counted bins whose centre is at a gate or above it (R79). -/
def gatedBins (counts : List Nat) (gate : Int) : List (Nat × Nat) :=
  (occupied 0 counts).filter fun e => decide (gate ≤ binCentre e.1)

theorem integratedLoudness_eq (counts : List Nat) :
    integratedLoudness counts = convMean (gatedBins counts (convMean (occupied 0 counts) precisions - 1000)) precisions :=
  rfl

/-- No bin has its centre below −12000 cL. -/
theorem gatedBins_lowest (counts : List Nat) : gatedBins counts (-12000) = occupied 0 counts :=
  List.filter_eq_self.mpr fun e _ => by rw [decide_eq_true_iff, binCentre]; omega

section
variable (counts : Vector Nat 800)

theorem gatedBins_counted (gate : Int) : CountedBins (gatedBins counts.toList gate) := by
  intro e he
  obtain ⟨hb, hn⟩ := mem_occupied (List.mem_of_mem_filter he)
  rw [Vector.length_toList, zero_add] at hb
  exact ⟨hb, hn⟩

theorem sum_gatedBins {g : Nat × Nat → ℝ} (hg : ∀ b, g (b, 0) = 0) (gate : Int) :
    ((gatedBins counts.toList gate).map g).sum =
      ∑ b : Fin 800, if gate ≤ binCentre b.val then g (b.val, counts.get b) else 0 := by
  have hfilter : ((gatedBins counts.toList gate).map g).sum =
      ((occupied 0 counts.toList).map fun e => if gate ≤ binCentre e.1 then g e else 0).sum := by
    rw [gatedBins, List.sum_map_ite]
    simp
  rw [hfilter, sum_occupied (fun b => by simp [hg])]
  refine Fintype.sum_equiv (finCongr counts.length_toList) _ _ fun i => ?_
  simp [Vector.get]

/-- The mean over the gated bins, as a quotient of sums over all bins. -/
theorem meanPower_gatedBins (gate : Int) :
    meanPower (gatedBins counts.toList gate) =
      (∑ b : Fin 800, if gate ≤ binCentre b.val then (counts.get b : ℝ) * centrePower b.val else 0) /
        ∑ b : Fin 800, if gate ≤ binCentre b.val then (counts.get b : ℝ) else 0 := by
  have hcount : ((countSum (gatedBins counts.toList gate) : Nat) : ℝ) =
      ((gatedBins counts.toList gate).map fun e => (e.2 : ℝ)).sum := by
    rw [countSum]
    push_cast
    rw [List.map_map]
    rfl
  rw [meanPower, hcount, sum_gatedBins counts (by simp), sum_gatedBins counts (by simp)]

theorem isGatedLoudness_of_eq {gate loudness : Int}
    (h : loudness = relativeLoudness (meanPower (gatedBins counts.toList gate))) :
    IsGatedLoudness counts gate loudness := by
  refine ⟨_, ?_, h⟩
  rw [meanPower_gatedBins]
  exact abs_round_sub_le _

end

theorem occupied_ne_nil {counts : Vector Nat 800} (h : ∃ b : Fin 800, counts.get b ≠ 0) :
    occupied 0 counts.toList ≠ [] := by
  intro hnil
  obtain ⟨b, hb⟩ := h
  have hsum := sum_occupied (g := fun e => (e.2 : ℝ)) (by simp) counts.toList 0
  rw [hnil, List.map_nil, List.sum_nil, eq_comm, Finset.sum_eq_zero_iff_of_nonneg (fun _ _ => Nat.cast_nonneg _)] at hsum
  have hzero := hsum ⟨b.val, by rw [Vector.length_toList]; exact b.isLt⟩ (Finset.mem_univ _)
  exact hb (by simpa [Vector.get] using hzero)

/-! ### The relative gate (R79) -/

/-- A mean is no more than the centre power of the highest bin. -/
theorem meanPower_le {occ : List (Nat × Nat)} (hocc : CountedBins occ) (hne : occ ≠ []) {top : Nat}
    (htop : ∀ e ∈ occ, e.1 ≤ top) : meanPower occ ≤ centrePower top := by
  have hcount := countSum_pos hocc hne
  rw [meanPower, div_le_iff₀ (by exact_mod_cast hcount), mul_comm, countSum]
  push_cast
  rw [List.map_map, ← List.sum_map_mul_right]
  exact List.sum_le_sum fun e he => mul_le_mul_of_nonneg_left (centrePower_mono (htop e he)) (Nat.cast_nonneg _)

/-- The relative gate leaves the highest counted bin, since the ungated mean is not above its centre. -/
theorem gatedBins_relative_ne_nil {counts : Vector Nat 800} (hne : occupied 0 counts.toList ≠ []) :
    gatedBins counts.toList (relativeLoudness (meanPower (occupied 0 counts.toList)) - 1000) ≠ [] := by
  have hocc : CountedBins (occupied 0 counts.toList) := gatedBins_lowest _ ▸ gatedBins_counted counts (-12000)
  obtain ⟨top, hmem, htop⟩ :=
    (occupied 0 counts.toList).toFinset.exists_max_image Prod.fst ((List.toFinset_nonempty_iff _).mpr hne)
  simp only [List.mem_toFinset] at hmem htop
  have hmean := relativeLoudness_mono (meanPower_pos hocc hne) (meanPower_le hocc hne htop)
  rw [relativeLoudness_centrePower (hocc top hmem).1] at hmean
  refine List.ne_nil_of_mem (List.mem_filter.mpr ⟨hmem, ?_⟩)
  rw [decide_eq_true_iff]
  omega

/-! ### One counted bin -/

theorem occupied_replicate_set {k b n : Nat} (hb : b < k) (hn : 0 < n) :
    occupied 0 ((List.replicate k 0).set b n) = [(b, n)] := by
  rw [List.set_eq_take_append_cons_drop, List.length_replicate, if_pos hb, List.take_replicate, List.drop_replicate,
    occupied_append, occupied_replicate_zero, occupied, if_neg hn.ne', occupied_replicate_zero, List.length_replicate,
    Nat.min_eq_left hb.le, Nat.zero_add]
  rfl

/-- The bounds of one bin are close enough at 12 bits and more, so that its mean is its centre (R76). -/
theorem convRelative_meanBound_singleton {b n prec : Nat} (hb : b < 800) (hn : 0 < n) (hprec : 12 ≤ prec) :
    convRelative (meanBound 0 prec [(b, n)]) = binCentre b := by
  have hocc : CountedBins [(b, n)] := by simp [CountedBins, hb, hn]
  have hbound : ((meanBound 0 prec [(b, n)] : Rat) : ℝ) = (binRoot prec b : ℝ) / 2 ^ prec := by
    have : (n : ℝ) ≠ 0 := by exact_mod_cast hn.ne'
    rw [meanBound_eq]
    simp [countSum, this]
  have hstep : (1 : ℝ) / 2 ^ prec ≤ 1 / 4000 := by
    have : (2 : ℝ) ^ 12 ≤ 2 ^ prec := pow_le_pow_right₀ (by norm_num) hprec
    gcongr
    linarith
  have hupper := le_binRoot_succ hb prec
  rw [add_div] at hupper
  rw [convRelative_eq (meanBound_zero_pos hocc (List.cons_ne_nil _ _) prec), hbound]
  exact relativeLoudness_of_near_centre hb (by linarith [one_le_centrePower b]) (binRoot_le hb prec)

theorem precisions_ge : ∀ prec ∈ precisions, 12 ≤ prec := by decide

theorem convMean_singleton {b n : Nat} (hb : b < 800) (hn : 0 < n) : convMean [(b, n)] precisions = binCentre b := by
  obtain ⟨prec, hmem, heq, -⟩ := convMean_mem [(b, n)] precisions_ne_nil
  rw [heq, convRelative_meanBound_singleton hb hn (precisions_ge prec hmem)]

/-- Settles O13: decided means convert exactly by `convRelative_meanBound`, the relative gate leaves a bin, and one bin alone
converts to its centre. -/
theorem integratedLoudnessIsExact : Obligations.IntegratedLoudnessIsExact := by
  refine ⟨fun occ prec hne hocc hagree => ⟨_, abs_round_sub_le _, convRelative_meanBound hocc hne hagree⟩,
    fun counts hcounts hdecided => ?gated, fun b n hn => ?single⟩
  case gated =>
    have hne := occupied_ne_nil hcounts
    have hungated : convMean (occupied 0 counts.toList) precisions =
        relativeLoudness (meanPower (occupied 0 counts.toList)) := by
      rw [← gatedBins_lowest] at hne ⊢
      exact convMean_eq (gatedBins_counted _ _) hne (hdecided _)
    refine ⟨relativeLoudness (meanPower (occupied 0 counts.toList)), isGatedLoudness_of_eq counts ?_,
      isGatedLoudness_of_eq counts ?_⟩
    · rw [gatedBins_lowest]
    · rw [integratedLoudness_eq, hungated]
      exact convMean_eq (gatedBins_counted _ _) (gatedBins_relative_ne_nil hne) (hdecided _)
  case single =>
    have hocc : occupied 0 ((Vector.replicate 800 0).set b n).toList = [(b.val, n)] := by
      rw [Vector.toList_set, Vector.toList_replicate, occupied_replicate_set b.isLt hn]
    have hkept (gate : Int) (h : gate ≤ binCentre b.val) :
        gatedBins ((Vector.replicate 800 0).set b n).toList gate = [(b.val, n)] := by
      simp [gatedBins, hocc, h]
    rw [integratedLoudness_eq, hocc, convMean_singleton b.isLt hn, hkept _ (by omega), convMean_singleton b.isLt hn]
    rfl

end Sys2Proof.Machine
end

section
/-! PROOF. The measurement stage of a close (R62 to R65, R69 to R71): O18. -/

namespace Sys2Proof.Machine

/-! ### An appending close -/

theorem Service.profileStage_power (sv : Service) : sv.profileStage.power = sv.power := by
  rw [Service.power, Service.profileStage_layout, Service.profileStage_meas, Service.power]

/-- Of a ring within its size and a new entry, the newest 30 are kept (R65). -/
theorem ringAppend_eq_drop {ring : List Rat} (h : ring.length ≤ 30) (q : Rat) :
    ringAppend ring q = (ring ++ [q]).drop (ring.length + 1 - 30) := by
  unfold ringAppend Config.ringSize
  split
  · next hlt => rw [Nat.sub_eq_zero_of_le (by omega), List.drop_zero]
  · next hfull =>
    have hlen : ring.length = 30 := by omega
    cases ring with
    | nil => cases hlen
    | cons oldest kept => rw [hlen]; rfl

/-- M is formed from exactly four entries (R69). -/
theorem momentaryOf_eq (ring : List Rat) :
    momentaryOf ring =
      if 4 ≤ ring.length then some (conv ((ring.drop (ring.length - 4)).sum / 4)) else none := by
  unfold momentaryOf
  split
  · next h =>
    have hlen : (ring.drop (ring.length - 4)).length = 4 := by rw [List.length_drop]; omega
    rw [meanLoudness, hlen]
    rfl
  · rfl

/-! ### Any other close (R64) -/

/-- The lifecycle stage clears the filters of a service that resumes, and moves nothing else of the measurement unit (R45,
R60). -/
theorem Service.lifecycleStage_meas (sv : Service) (l : Lifecycle) (measuring : Bool) (d : FeedDecision) :
    (sv.lifecycleStage l measuring d).meas = sv.meas ∨
      (sv.lifecycleStage l measuring d).meas = sv.meas.sized sv.channels := by
  unfold Service.lifecycleStage
  dsimp only
  split
  · exact .inl (Service.haltStage_meas _)
  · exact .inl rfl
  · exact .inr rfl
  · exact .inl rfl

theorem Service.decided_meas (sv : Service) (a b : Bool) (w : Word32) :
    (sv.decided a b w).meas = (sv.profileStage.measurementStage sv.appends w).meas := by
  unfold Service.decided Service.monitored
  dsimp only
  split <;> simp

/-- A close that does not append empties the accumulators and keeps the ring and the readings. -/
theorem Service.close_meas_of_not_appends {sv : Service} (h : sv.appends = false) (a b : Bool) (w : Word32) :
    (sv.close a b w).service.meas = sv.meas.emptied ∨
      (sv.close a b w).service.meas = sv.meas.emptied.sized sv.channels := by
  have hmeas : (sv.decided a b w).meas = sv.meas.emptied := by
    rw [Service.decided_meas, h]
    simp [Service.measurementStage]
  have hstage := (sv.decided a b w).lifecycleStage_meas sv.lifecycle sv.appends (sv.decision a b w)
  rwa [hmeas, Service.decided_channels] at hstage

theorem Service.appends_eq_false {sv : Service}
    (h : sv.lifecycle = .dropped ∨ sv.lifecycle = .halting ∨ sv.entryMarker = true) : sv.appends = false := by
  rcases h with h | h | h <;> simp [Service.appends, h, Lifecycle.measuring]

/-- Settles O18: `Service.close_meas_of_measuring` gives an appending close, `Service.close_meas_of_not_appends` any other. -/
theorem ringAndReadings : Obligations.RingAndReadings := by
  rintro sv a b stamp after rfl
  refine ⟨fun hl he hring => ?appending, fun hl => ?other⟩
  case appending =>
    refine ⟨sv.power, ringAppend sv.meas.ring sv.power, rfl, ringAppend_eq_drop hring _, ?_⟩
    rw [sv.close_meas_of_measuring a b stamp (Lifecycle.measuring_iff.mpr hl) he, Service.profileStage_power,
      ← momentaryOf_eq]
    rfl
  case other =>
    rcases Service.close_meas_of_not_appends (Service.appends_eq_false hl) a b stamp with h | h <;> rw [h]
    · exact ⟨rfl, rfl, rfl, rfl, by simp [Measurement.emptied]⟩
    · exact ⟨rfl, rfl, rfl, rfl, by simp [Measurement.sized]⟩

end Sys2Proof.Machine
end

section
/-! PROOF. PEEK of the pages of a service, and the refusals of PEEK (R73, R91, R138, R160, R174): O30. -/

namespace Sys2Proof.Machine

/-! ### The pages of a unit (R174) -/

/-- The stage code of a queue entry tells what has been formed of it (R138). -/
theorem Segment.stage_code (seg : Segment) :
    seg.stage.code =
      if seg.output.isSome then 3 else if seg.peak.isSome then 2
      else if 16 ≤ (seg.lanes.headD []).length then 1 else 0 := by
  simp only [Segment.stage, apply_ite SegmentStage.code]
  rfl

theorem servicePage_histogram (sv : Service) (a b : Bool) {page : Nat} (h1 : 1 ≤ page) (h16 : page ≤ 16) :
    servicePage sv a b page = some (histogramPage sv.integ page) := by
  rw [servicePage, if_neg (by omega), if_pos h16]

theorem servicePage_eq_none (sv : Service) (a b : Bool) {page : Nat} (h : 18 < page) : servicePage sv a b page = none := by
  rw [servicePage, if_neg (by omega), if_neg (by omega), if_neg (by omega), if_neg (by omega)]

section
variable {f : ControlFrame} {s : State}

theorem pageOf_of_service {n : ServiceIndex} (hu : f.unit = BitVec.ofNat 8 n.val) (page : Nat) :
    pageOf f.unit s page = some (servicePage (s.service n) s.portA.usable s.portB.usable page) := by
  rw [pageOf, serviceOf_eq_some.mpr hu]

theorem table_of_unit (hu : f.unit = 0xF0 ∨ f.unit = 0xF1 ∨ f.unit = 0xF2) :
    ∃ id, serviceOf f.unit = none ∧ tableOf f.unit = some id := by
  rcases hu with hu | hu | hu <;> rw [hu]
  · exact ⟨.portA, rfl, rfl⟩
  · exact ⟨.portB, rfl, rfl⟩
  · exact ⟨.output, rfl, rfl⟩

theorem pageOf_of_table (hu : f.unit = 0xF0 ∨ f.unit = 0xF1 ∨ f.unit = 0xF2) {page : Nat} (hp : page ≠ 0) :
    pageOf f.unit s page = some none := by
  obtain ⟨id, hservice, htable⟩ := table_of_unit hu
  simp only [pageOf, hservice, htable, if_neg hp]

theorem pageOf_eq_none (hu : ∀ n : ServiceIndex, f.unit ≠ BitVec.ofNat 8 n.val) (h0 : f.unit ≠ 0xF0)
    (h1 : f.unit ≠ 0xF1) (h2 : f.unit ≠ 0xF2) (page : Nat) : pageOf f.unit s page = none := by
  rw [pageOf, serviceOf_eq_none.mpr hu, tableOf, if_neg h0, if_neg h1, if_neg h2]

theorem pageOf_isSome
    (hu : (∃ n : ServiceIndex, f.unit = BitVec.ofNat 8 n.val) ∨ f.unit = 0xF0 ∨ f.unit = 0xF1 ∨ f.unit = 0xF2)
    (page : Nat) : pageOf f.unit s page ≠ none := by
  rcases hu with ⟨n, hn⟩ | ht
  · rw [pageOf_of_service hn]
    simp
  · obtain ⟨id, hservice, htable⟩ := table_of_unit ht
    rw [pageOf, hservice, htable]
    simp

/-! ### The rule of Peek (R174) -/

theorem peekAct_of_page {page : Byte} {bytes : List Byte} (hp : f.payload = [page])
    (h : pageOf f.unit s page.toNat = some (some bytes)) : peekAct f s = (s, Answer.ok bytes) := by
  simp only [peekAct, hp, h]

theorem peekAct_of_range {page : Byte} (hp : f.payload = [page]) (h : pageOf f.unit s page.toNat = some none) :
    peekAct f s = (s, { status := .range, detail := [page] }) := by
  simp only [peekAct, hp, h]

theorem peekAct_of_unit (h : ∀ page, pageOf f.unit s page = none) : peekAct f s = (s, Answer.plain .unit) := by
  unfold peekAct
  split
  · simp only [h]
  · rw [if_pos (h 0)]

theorem peekAct_of_length (h : pageOf f.unit s 0 ≠ none) (hl : f.payload.length ≠ 1) :
    peekAct f s = (s, Answer.length f) := by
  unfold peekAct
  split
  · next hp => exact absurd (by rw [hp]; rfl) hl
  · rw [if_neg h]

end

/-- A Peek leaves the part alone and is answered by its rule (R168). -/
theorem exec_peek_of_serving {s : State} {f : ControlFrame} {rest : List ControlFrame} {a : Answer}
    (h : Serving s 0x03 f rest) (hact : peekAct f s.dequeued = (s.dequeued, a)) :
    exec .peek s =
      .next (s.answered rest { kind := 0x83, tag := f.tag, unit := f.unit, payload := a.status.code :: a.detail }
        .ordinary) :=
  congrArg Host.Outcome.next (serve_answered h hact rfl rfl)

/-- Settles O30: each clause is one page of `servicePage` or one refusal of `peekAct`, served. -/
theorem peekServicePages : Obligations.PeekServicePages := by
  intro s f rest h
  refine ⟨fun n sv page hu hs hp => ?service, fun page hu hp h0 => ?table, fun hu h0 h1 h2 => ?unit, fun hu hl => ?length⟩
  case service =>
    subst hs
    have hpage := pageOf_of_service (s := s.dequeued) hu
    have served (bytes : List Byte)
        (hb : servicePage (s.service n) s.portA.usable s.portB.usable page.toNat = some bytes) :
        exec .peek s =
          .next (s.answered rest { kind := 0x83, tag := f.tag, unit := f.unit, payload := 0x00 :: bytes } .ordinary) :=
      exec_peek_of_serving h (peekAct_of_page hp ((hpage _).trans (congrArg some hb)))
    refine ⟨fun h0 => ?ring, fun h1 h16 => ?histogram, fun h17 => ?queue, fun h18 => ?feeds, fun hr => ?range⟩
    case ring => exact served _ (by rw [h0]; rfl)
    case histogram => exact served _ (servicePage_histogram _ _ _ h1 h16)
    case queue =>
      have hb := served (queuePage (s.service n).lim) (by rw [h17]; rfl)
      simp only [queuePage, Segment.stage_code] at hb
      exact hb
    case feeds => exact served _ (by rw [h18]; rfl)
    case range =>
      exact exec_peek_of_serving h (peekAct_of_range hp ((hpage _).trans (congrArg some (servicePage_eq_none _ _ _ hr))))
  case table =>
    have hne : page.toNat ≠ 0 := fun hz => h0 (BitVec.eq_of_toNat_eq hz)
    exact exec_peek_of_serving h (peekAct_of_range hp (pageOf_of_table hu hne))
  case unit => exact exec_peek_of_serving h (peekAct_of_unit (pageOf_eq_none hu h0 h1 h2))
  case length => exact exec_peek_of_serving h (peekAct_of_length (pageOf_isSome hu 0) hl)

end Sys2Proof.Machine
end

section
/-! PROOF. The integration stage of a close (R75 to R77, R80 to R83, R85), what it leaves of the integration unit, and its
DEVIATION raise (R84): O19. -/

namespace Sys2Proof.Machine

/-! ### The count of a gating block (R76, R77, R80) -/

theorem binOf_eq {m : Int} {b : Fin 800} (h : b.val = min ((m + 7000) / 10).toNat 799) : binOf m = b := by
  refine Fin.ext ?_
  rw [binOf, Fin.val_ofNat, h, Nat.mod_eq_of_lt (by omega)]

section
variable (i : Integration) {m : Int}

theorem Integration.counted_of_below (h : m < -7000) : i.counted m = i := if_pos h

theorem Integration.counted_of_gate (h : -7000 ≤ m) {b : Fin 800} (hb : binOf m = b) :
    i.counted m =
      { i with
        bins := i.bins.set b (satInc 4294967295 (i.bins.get b))
        total := satInc 4294967295 i.total
        integrated :=
          if i.bins.get b < 4294967295 ∨ i.total < 4294967295 then
            some (integratedLoudness (i.bins.set b (satInc 4294967295 (i.bins.get b))).toList)
          else i.integrated } := by
  subst hb
  exact if_neg (Int.not_lt.mpr h)

@[simp] theorem Integration.counted_deviation (m : Int) : (i.counted m).deviation = i.deviation := by
  unfold Integration.counted
  split <;> rfl

@[simp] theorem Integration.counted_sinceMark (m : Int) : (i.counted m).sinceMark = i.sinceMark := by
  unfold Integration.counted
  split <;> rfl

/-- The unit after the count of a close, whose ring gives the momentary loudness `m` (R75). -/
def Integration.blockCounted (measuring : Bool) (m : Option Int) : Integration :=
  match measuring, m with
  | true, some block => i.counted block
  | _, _ => i

@[simp] theorem Integration.blockCounted_of_some (m : Int) : i.blockCounted true (some m) = i.counted m := rfl

/-- Nothing is counted without an append, without M, and below the absolute gate (R75, R76). -/
theorem Integration.blockCounted_of_none {measuring : Bool} {m : Option Int}
    (h : measuring = false ∨ m = none ∨ ∃ block, m = some block ∧ block < -7000) : i.blockCounted measuring m = i := by
  unfold Integration.blockCounted
  split
  · rcases h with h | h | ⟨block, hm, hlow⟩
    · cases h
    · cases h
    · cases hm
      exact i.counted_of_below hlow
  · rfl

@[simp] theorem Integration.blockCounted_deviation (measuring : Bool) (m : Option Int) :
    (i.blockCounted measuring m).deviation = i.deviation := by
  unfold Integration.blockCounted
  split <;> simp

@[simp] theorem Integration.blockCounted_sinceMark (measuring : Bool) (m : Option Int) :
    (i.blockCounted measuring m).sinceMark = i.sinceMark := by
  unfold Integration.blockCounted
  split <;> simp

end

/-! ### The deviation test (R81, R83) -/

/-- A test moves the flag alone. -/
theorem Integration.tested_eq (i : Integration) (t tolerance : Int) :
    i.tested t tolerance = { i with deviation := (i.tested t tolerance).deviation } := by
  unfold Integration.tested
  split
  · split <;> rfl
  · rfl

theorem Integration.tested_of_ready {i : Integration} {loud : Int} (hi : i.integrated = some loud) (hr : 300 ≤ i.total)
    (t tolerance : Int) : (i.tested t tolerance).deviation = deviationAfter i.deviation loud t tolerance := by
  simp [Integration.tested, hi, Integration.ready, hr]

theorem Integration.tested_of_not_ready {i : Integration} (hr : i.total < 300) (t tolerance : Int) :
    i.tested t tolerance = i := by
  unfold Integration.tested
  split
  · exact if_neg (by simpa [Integration.ready] using hr)
  · rfl

theorem deviationAfter_iff (flag : Bool) (i t tolerance : Int) :
    deviationAfter flag i t tolerance = true ↔
      if flag then tolerance - 50 < |i - t| else tolerance < |i - t| := by
  cases flag <;> simp [deviationAfter]

/-! ### The stages of a close -/

theorem Service.appends_iff {sv : Service} :
    sv.appends = true ↔
      (sv.lifecycle = .priming ∨ sv.lifecycle = .active ∨ sv.lifecycle = .bypass) ∧ sv.entryMarker = false := by
  rw [Service.appends, Bool.and_eq_true, Lifecycle.measuring_iff, Bool.not_eq_true']

/-- The closes that make a deviation test: the appending ones, and those in DROPPED (R83). -/
theorem Service.decides_iff {sv : Service} :
    sv.decides = true ↔ sv.appends = true ∨ sv.lifecycle = .dropped ∧ sv.entryMarker = false := by
  simp only [Service.decides, Service.appends, Bool.and_eq_true, Bool.or_eq_true, beq_iff_eq, Bool.not_eq_true', or_and_right]

theorem Service.decides_eq_false {sv : Service} (h : sv.lifecycle = .halting ∨ sv.entryMarker = true) :
    sv.decides = false := by
  rcases h with h | h <;> simp [Service.decides, h, Lifecycle.measuring]

/-- The stage counts the block, tests the flag, and lets the subblocks since mark advance (R85). -/
theorem Service.integrationStage_integ (sv : Service) (measuring testing : Bool) {one : Integration}
    (hone : sv.integ.blockCounted measuring sv.meas.momentary = one) :
    (sv.integrationStage measuring testing).integ =
      { one with
        deviation :=
          if testing then (one.tested sv.profile.target sv.profile.tolerance).deviation else sv.integ.deviation
        sinceMark := if measuring then satInc 4294967295 sv.integ.sinceMark else sv.integ.sinceMark } := by
  have hdev : sv.integ.deviation = one.deviation := by simp [← hone]
  have hsince : sv.integ.sinceMark = one.sinceMark := by simp [← hone]
  have hstage : (sv.integrationStage measuring testing).integ =
      let two := if testing then one.tested sv.profile.target sv.profile.tolerance else one
      if measuring then { two with sinceMark := satInc 4294967295 two.sinceMark } else two := by
    rw [← hone]
    rfl
  rw [hstage, hdev, hsince]
  cases testing with
  | false => cases measuring <;> rfl
  | true =>
    have htest := one.tested_eq sv.profile.target sv.profile.tolerance
    generalize one.tested sv.profile.target sv.profile.tolerance = two at htest ⊢
    rw [htest]
    cases measuring <;> rfl

section
variable (sv : Service) (a b : Bool) (w : Word32)

/-- The integration unit after a close, from the block of its new M and the profile in force. -/
theorem Service.close_integ_eq {one : Integration}
    (hone : sv.integ.blockCounted sv.appends (sv.close a b w).service.meas.momentary = one) :
    (sv.close a b w).service.integ =
      { one with
        deviation :=
          if sv.decides then
            (one.tested (sv.close a b w).service.profile.target (sv.close a b w).service.profile.tolerance).deviation
          else sv.integ.deviation
        sinceMark := if sv.appends then satInc 4294967295 sv.integ.sinceMark else sv.integ.sinceMark } := by
  have hblock : sv.integ.blockCounted sv.appends (sv.profileStage.measurementStage sv.appends w).meas.momentary = one := by
    cases happ : sv.appends with
    | false => rw [← hone, happ, sv.integ.blockCounted_of_none (.inl rfl), sv.integ.blockCounted_of_none (.inl rfl)]
    | true =>
      obtain ⟨hm, he⟩ := (Bool.and_eq_true ..).mp happ
      rw [sv.close_meas_of_measuring a b w hm (by simpa using he), happ] at hone
      simpa [Service.measurementStage] using hone
  have hstage := (sv.profileStage.measurementStage sv.appends w).integrationStage_integ sv.appends sv.decides
    (one := one) (by simpa using hblock)
  rw [Service.close_profile]
  refine (sv.close_integ a b w).trans (hstage.trans ?_)
  simp

/-- The DEVIATION raise of a close (R84). -/
theorem Service.close_deviationRaises :
    (sv.close a b w).notices.filter (fun d => d.kind == .deviation) =
      deviationNotice sv.integ.deviation (sv.close a b w).service := by
  have hstate : ∀ l x, (stateNotice l x).filter (fun d => d.kind == .deviation) = [] := fun _ _ =>
    filter_kind_eq_nil fun _ hd => by rw [kind_of_mem_stateNotice hd]; decide
  have hfeed : ∀ f x, (feedNotice f x).filter (fun d => d.kind == .deviation) = [] := fun _ _ =>
    filter_kind_eq_nil fun _ hd => by rw [kind_of_mem_feedNotice hd]; decide
  have hdeviation : ∀ f x, (deviationNotice f x).filter (fun d => d.kind == .deviation) = deviationNotice f x :=
    fun _ _ => filter_kind_eq_self fun _ => kind_of_mem_deviationNotice
  have hlimiter : ∀ x, (limiterNotices x).filter (fun d => d.kind == .deviation) = [] := fun _ =>
    filter_kind_eq_nil fun _ hd => by rcases kind_of_mem_limiterNotices hd with h | h <;> rw [h] <;> decide
  rw [deviationNotice, Service.close_integ, Service.close_profile]
  simp only [Service.close, List.filter_append, hstate, hfeed, hdeviation, hlimiter, List.append_nil, List.nil_append]
  simp [deviationNotice]

end

/-- Settles O19: a close counts the block, tests the flag and advances the subblocks since mark, each clause being one of the
three in one of its cases. -/
theorem integrationAndDeviation : Obligations.IntegrationAndDeviation := by
  refine ⟨?_, fun sv a b w => ?raise⟩
  case raise =>
    dsimp only
    rw [Service.close_deviationRaises, deviationNotice]
    simp
  rintro sv a b w after rfl
  dsimp only
  rw [← Service.appends_iff, Bool.not_eq_true]
  generalize hone : sv.integ.blockCounted sv.appends (sv.close a b w).service.meas.momentary = one
  have hinteg := sv.close_integ_eq a b w hone
  have hdev : one.deviation = sv.integ.deviation := by rw [← hone, Integration.blockCounted_deviation]
  generalize (sv.close a b w).service = after at hone hinteg ⊢
  rw [hinteg]
  refine ⟨fun m bin happ hm hgate hbin => ?counted, fun hnone => ?kept, fun happ => if_pos happ,
    fun happ => if_neg (by simp [happ]), fun i htest hi hr => ?tested, fun hnot => ?held⟩
  case counted =>
    rw [happ, hm, Integration.blockCounted_of_some, sv.integ.counted_of_gate hgate (binOf_eq hbin)] at hone
    subst hone
    exact ⟨rfl, rfl, fun hroom => if_pos hroom⟩
  case kept =>
    rw [sv.integ.blockCounted_of_none hnone] at hone
    subst hone
    exact ⟨rfl, rfl, rfl⟩
  case tested =>
    rw [if_pos (Service.decides_iff.mpr htest), Integration.tested_of_ready (i := one) hi hr, hdev]
    exact deviationAfter_iff ..
  case held =>
    dsimp only
    rcases hnot with hlow | hclose
    · rw [Integration.tested_of_not_ready (i := one) hlow, hdev, ite_self]
    · rw [Service.decides_eq_false hclose]
      rfl

end Sys2Proof.Machine
end

section
/-! PROOF. MARK in every state, with every option (R86 to R89): O39. -/

namespace Sys2Proof.Machine

/-- The option byte of a Mark: REGAIN in bit 0, RESTART in bit 1 (R86). -/
def markOption (regain restart : Bool) : Byte :=
  (if regain then 1 else 0) + (if restart then 2 else 0)

theorem markOption_spec (regain restart : Bool) :
    (markOption regain restart).toNat ≤ 3 ∧ (markOption regain restart).getLsbD 0 = regain ∧
      (markOption regain restart).getLsbD 1 = restart := by
  cases regain <;> cases restart <;> decide

/-- The record that a Mark with its options leaves (R87 to R89). -/
def Service.markedWith (sv : Service) (regain restart : Bool) : Service :=
  if restart then (sv.marked regain).restarted else sv.marked regain

/-- REGAIN adds to the REGAIN flag alone, RESTART to the ring, its readings and the two states alone (R88, R89). -/
theorem Service.markedWith_eq (sv : Service) (regain restart : Bool) :
    sv.markedWith regain restart =
      { sv with
        integ := Integration.cleared
        gain := { sv.gain with regain := sv.gain.regain || regain }
        meas := if restart then sv.meas.ringCleared else sv.meas
        lifecycle := if restart ∧ sv.lifecycle = .active then .priming else sv.lifecycle
        resume := if restart ∧ sv.resume = some .active then some .priming else sv.resume } := by
  cases restart with
  | false => simp [Service.markedWith, Service.marked]
  | true =>
    simp only [Service.markedWith, Service.marked, Service.restarted, if_true, true_and]
    congr

/-! ### The rule of Mark (R86) -/

section
variable {n : ServiceIndex} {f : ControlFrame} {s : State} {sv : Service} (hs : s.service n = sv)
include hs

theorem markAct_of_state (hl : sv.lifecycle = .vacant ∨ sv.lifecycle = .idle ∨ sv.lifecycle = .halting) :
    markAct n f s = (s, stateRefusal sv) := by
  rcases hl with hl | hl | hl <;> simp [markAct, hs, hl]

variable (hl : ¬(sv.lifecycle = .vacant ∨ sv.lifecycle = .idle ∨ sv.lifecycle = .halting))
include hl

theorem markAct_of_length (hp : f.payload.length ≠ 1) : markAct n f s = (s, Answer.length f) := by
  unfold markAct
  rw [hs]
  dsimp only
  cases hlife : sv.lifecycle with
  | vacant | idle | halting => exact absurd (by simp [hlife]) hl
  | priming | active | bypass | dropped =>
    dsimp only
    split
    · next option hone => exact absurd (congrArg List.length hone) hp
    · rfl

theorem markAct_of_option {option : Byte} (hp : f.payload = [option]) :
    markAct n f s =
      if 3 < option.toNat then (s, { status := .range, detail := [option] })
      else
        (s.setService n (sv.markedWith (option.getLsbD 0) (option.getLsbD 1)),
          stateOk (sv.markedWith (option.getLsbD 0) (option.getLsbD 1))) := by
  unfold markAct
  rw [hs]
  dsimp only
  cases hlife : sv.lifecycle with
  | vacant | idle | halting => exact absurd (by simp [hlife]) hl
  | priming | active | bypass | dropped =>
    rw [hp]
    rfl

theorem markAct_of_range {option : Byte} (hp : f.payload = [option]) (hr : 3 < option.toNat) :
    markAct n f s = (s, { status := .range, detail := [option] }) := by
  rw [markAct_of_option hs hl hp, if_pos hr]

theorem markAct_of_markOption {regain restart : Bool} (hp : f.payload = [markOption regain restart]) :
    markAct n f s = (s.setService n (sv.markedWith regain restart), stateOk (sv.markedWith regain restart)) := by
  obtain ⟨hr, hregain, hrestart⟩ := markOption_spec regain restart
  rw [markAct_of_option hs hl hp, if_neg (Nat.not_lt.mpr hr), hregain, hrestart]

end

namespace Settled

/-- Settles O39: each clause is one branch of `markAct`, served. -/
theorem markRequest : Obligations.MarkRequest := by
  intro s f rest n sv h hu hs
  refine ⟨fun hl => ?state, fun hl hp => ?length, fun hl option hp hr => ?range,
    fun hl regain restart hp marked hmarked => ?marked⟩ <;> refine congrArg Host.Outcome.next ?_
  case state => exact serve_service_unchanged h hu (markAct_of_state (s := s.dequeued) hs hl)
  case length => exact serve_service_unchanged h hu (markAct_of_length (s := s.dequeued) hs hl hp)
  case range => exact serve_service_unchanged h hu (markAct_of_range (s := s.dequeued) hs hl hp hr)
  case marked =>
    obtain rfl := hmarked.trans (sv.markedWith_eq regain restart).symm
    exact serve_service_written h hu (markAct_of_markOption (s := s.dequeued) hs hl hp)

end Settled

end Sys2Proof.Machine
end

section
/-! PROOF. Every command keeps the law of the gating histogram (R77) and the law of the loudness gain (R104): O58. -/

namespace Sys2Proof.Machine

/-! ### The histogram law (R77) -/

/-- One count more in a bin is one more in the sum. -/
theorem sum_set_succ {l : List Nat} {n : Nat} (h : n < l.length) : (l.set n (l[n] + 1)).sum = l.sum + 1 := by
  have hsplit : (l.take n).sum + (l[n] + (l.drop (n + 1)).sum) = l.sum := by
    rw [← List.sum_cons, ← List.drop_eq_getElem_cons h, List.sum_take_add_sum_drop]
  rw [List.sum_set, if_pos h]
  omega

/-- While the total has room, so has every bin, and both count the block (R77). -/
theorem Integration.HistogramLaw.counted {i : Integration} (h : i.HistogramLaw) (m : Int) : (i.counted m).HistogramLaw := by
  rcases lt_or_ge m (-7000) with hlow | hgate
  · rwa [i.counted_of_below hlow]
  obtain ⟨hbins, htotal, hsum⟩ := h
  obtain ⟨b, hbin⟩ : ∃ b, binOf m = b := ⟨_, rfl⟩
  rw [i.counted_of_gate hgate hbin]
  have hb : b.val < i.bins.toList.length := by simp
  have hget : i.bins.get b = i.bins.toList[b.val] := by simp [Vector.get_eq_getElem]
  refine ⟨fun n hn => ?_, satInc_le _ _, fun hroom => ?_⟩
  · rw [Vector.toList_set] at hn
    rcases List.mem_or_eq_of_mem_set hn with hn | rfl
    · exact hbins n hn
    · exact satInc_le _ _
  · have hlt : min (i.total + 1) 4294967295 < 4294967295 := hroom
    have htotal' : i.total = i.bins.toList.sum := hsum (show i.total < 4294967295 by omega)
    have hle : i.bins.get b ≤ i.bins.toList.sum := hget ▸ List.le_sum_of_mem (List.getElem_mem hb)
    show satInc 4294967295 i.total = (i.bins.set b (satInc 4294967295 (i.bins.get b))).toList.sum
    rw [Vector.toList_set, satInc_of_lt (by omega), satInc_of_lt (by omega), hget, sum_set_succ hb, htotal']

theorem Integration.cleared_histogramLaw : Integration.cleared.HistogramLaw := Service.factory_histogramLaw

/-- The law reads bins and total alone. -/
theorem Integration.HistogramLaw.congr {i j : Integration} (h : i.HistogramLaw) (hb : j.bins = i.bins)
    (ht : j.total = i.total) : j.HistogramLaw := by
  unfold Integration.HistogramLaw
  rw [hb, ht]
  exact h

theorem Service.close_histogramLaw {sv : Service} (h : sv.integ.HistogramLaw) (a b : Bool) (w : Word32) :
    (sv.close a b w).service.integ.HistogramLaw := by
  have hblock : (sv.integ.blockCounted sv.appends (sv.close a b w).service.meas.momentary).HistogramLaw := by
    unfold Integration.blockCounted
    split
    · exact h.counted _
    · exact h
  rw [sv.close_integ_eq a b w rfl]
  exact hblock.congr rfl rfl

theorem Service.histogramLaw_changed {sv sv' : Service} (hc : Service.Change sv sv') (h : sv.integ.HistogramLaw) :
    sv'.integ.HistogramLaw := by
  cases hc with
  | framed i slotsA slotsB => rwa [Service.atFrame_integ]
  | closed usableA usableB stamp running => exact Service.close_histogramLaw h _ _ _
  | started | marked | mapped | kept | loaded | factory => exact Integration.cleared_histogramLaw
  | bypassLeft | resumeLeft | halted | bypassed | bypassWaiting | restarted | selected | profilePending | profiled |
    unmapped => exact h

/-! ### Accepted profiles (R94, R96) -/

theorem parseFields_length (table : List FieldSpec) (bytes : List Byte) :
    (parseFields table bytes).length = table.length := by
  induction table generalizing bytes with
  | nil => rfl
  | cons f table ih => rw [parseFields, List.length_cons, ih, List.length_cons]

/-- Check 3 of a Profile accepts only values in range (R94). -/
theorem inRange_of_firstOutOfRange {index : Nat} {table : List FieldSpec} {values : List Int}
    (hlen : values.length = table.length) (h : firstOutOfRange index table values = none) :
    List.Forall₂ FieldSpec.InRange table values := by
  induction table generalizing index values with
  | nil =>
    rw [List.eq_nil_of_length_eq_zero hlen]
    exact .nil
  | cons f table ih =>
    cases values with
    | nil => cases hlen
    | cons v values =>
      unfold firstOutOfRange at h
      split at h
      · next hv => exact .cons hv (ih (Nat.succ.inj hlen) h)
      · cases h

theorem profileOfFields_accepted_valid {values : List Int} (h : List.Forall₂ FieldSpec.InRange profileTable values) :
    (profileOfFields values).accepted.Valid := by
  have hfield : ∀ k : Fin 17, (profileTable.get k).InRange (values.getD k 0) := by
    obtain ⟨hlen, hget⟩ := List.forall₂_iff_get.mp h
    intro k
    have hk : k.val < values.length := hlen ▸ k.isLt
    rw [List.getD_eq_getElem _ _ hk]
    exact hget k k.isLt hk
  simp only [profileTable, FieldSpec.InRange, Fin.forall_fin_succ, List.get_eq_getElem, List.getElem_cons_zero,
    List.getElem_cons_succ, Fin.coe_ofNat_eq_mod, Nat.zero_mod, Fin.val_succ, Fin.val_eq_zero, zero_add, Nat.reduceAdd,
    List.length_cons, List.length_nil, forall_const] at hfield
  have hgain := clampTo_within (values.getD 5 0) (values.getD 6 0) (values.getD 7 0) (by omega)
  simp only [Profile.Valid, Profile.accepted, profileOfFields]
  omega

theorem profileOfPayload_valid {payload : List Byte} {p : Profile} (h : profileOfPayload payload = .ok p) : p.Valid := by
  unfold profileOfPayload at h
  dsimp only at h
  split at h
  · cases h
  · next hnone =>
    cases h
    exact profileOfFields_accepted_valid (inRange_of_firstOutOfRange (parseFields_length _ _) hnone)

theorem loadedProfile_valid (payload : List Byte) : (loadedProfile payload).Valid := by
  unfold loadedProfile
  split
  · next hok => exact profileOfPayload_valid hok
  · exact Profile.factory_valid

/-! ### The gain step within the limits of a profile (R104, R106 to R111) -/

/-- A loudness gain within the limits of a profile (R104). -/
def Profile.Allows (p : Profile) (g : Int) : Prop :=
  p.gainFloor ≤ g ∧ g ≤ p.gainCeiling

section
variable {p : Profile} (hp : p.Valid)
include hp

theorem Profile.Valid.allows_zero : p.Allows 0 := by
  unfold Profile.Valid at hp
  constructor <;> omega

theorem Profile.Valid.allows_initialGain : p.Allows p.initialGain := by
  unfold Profile.Valid at hp
  constructor <;> omega

theorem Profile.Valid.allows_clampTo (g : Int) : p.Allows (clampTo p.gainFloor p.gainCeiling g) :=
  clampTo_within _ _ _ (by unfold Profile.Valid at hp; omega)

/-- The slew ends between the gain and the desired gain (R111). -/
theorem Profile.Valid.allows_slew (priming : Bool) {g d : Int} (hg : p.Allows g) (hd : p.Allows d) :
    p.Allows (slew p priming g d) := by
  obtain ⟨hglo, hghi⟩ := hg
  obtain ⟨hdlo, hdhi⟩ := hd
  unfold Profile.Valid at hp
  unfold slew
  split
  · split <;> constructor <;> omega
  · constructor <;> omega

theorem Profile.Valid.allows_steered (priming : Bool) (m : Measurement) (i : Integration) {g : Int} (hg : p.Allows g) :
    p.Allows (steered p priming m i g) := by
  unfold steered
  split
  · split
    · exact hg
    · exact hp.allows_slew priming hg (hp.allows_clampTo _)
  · exact hg

end

/-- The gain action of every close stays within the limits of the profile in force (6.6). -/
theorem Service.gainStage_allows {sv : Service} (hp : sv.profile.Valid) (hg : sv.profile.Allows sv.gain.g)
    (read : Lifecycle) (entry : Bool) (oldG : Int) : sv.profile.Allows (sv.gainStage read entry oldG).gain.g := by
  have hstep : ∀ priming, sv.profile.Allows (steered sv.profile priming sv.meas sv.integ sv.gain.g) :=
    fun priming => hp.allows_steered priming _ _ hg
  unfold Service.gainStage
  cases read with
  | vacant | idle | dropped | halting => exact hg
  | bypass => exact hp.allows_zero
  | priming | active =>
    dsimp only
    split
    · exact hg
    · split
      · exact hp.allows_initialGain
      · exact hstep _

/-! ### The gain law (R104) -/

theorem Service.gainLaw_iff {sv : Service} :
    sv.GainLaw ↔
      sv.profile.Valid ∧ (∀ p, sv.pendingProfile = some p → p.Valid) ∧ sv.profile.Allows sv.gain.g ∧
        sv.gain.rampEnd = lin sv.gain.g := by
  simp only [Service.GainLaw, Profile.Allows, and_assoc]

/-- A profile put in force clamps G into its limits (R101). -/
theorem Service.profileStage_allows {sv : Service} (h : sv.GainLaw) :
    sv.profileStage.profile.Valid ∧ sv.profileStage.profile.Allows sv.profileStage.gain.g := by
  obtain ⟨hp, hpending, hg, -⟩ := Service.gainLaw_iff.mp h
  rw [Service.profileStage_profile, Service.profileStage_g]
  cases hq : sv.pendingProfile with
  | none => exact ⟨hp, hg⟩
  | some p => exact ⟨hpending p hq, (hpending p hq).allows_clampTo _⟩

/-- The gain computer at the initial gain of the profile in force (R105). -/
theorem Service.gainLaw_of_initial {sv : Service} (hp : sv.profile.Valid)
    (hpending : ∀ p, sv.pendingProfile = some p → p.Valid) (hg : sv.gain.g = sv.profile.initialGain)
    (hramp : sv.gain.rampEnd = lin sv.profile.initialGain) : sv.GainLaw :=
  Service.gainLaw_iff.mpr ⟨hp, hpending, hg ▸ hp.allows_initialGain, hg ▸ hramp⟩

namespace Service.GainLaw

variable {sv sv' : Service} (h : sv.GainLaw)
include h

/-- The law reads the profiles, G and the ramp end alone. -/
theorem congr (hp : sv'.profile = sv.profile) (hpending : sv'.pendingProfile = sv.pendingProfile)
    (hg : sv'.gain.g = sv.gain.g) (hramp : sv'.gain.rampEnd = sv.gain.rampEnd) : sv'.GainLaw := by
  unfold Service.GainLaw
  rw [hp, hpending, hg, hramp]
  exact h

theorem close (a b : Bool) (w : Word32) : (sv.close a b w).service.GainLaw := by
  obtain ⟨hp, hg⟩ := Service.profileStage_allows h
  refine Service.gainLaw_iff.mpr ⟨?_, ?_, ?_, ?_⟩
  · rw [Service.close_profile, ← Service.profileStage_profile]
    exact hp
  · simp
  · rw [Service.close_profile, ← Service.profileStage_profile, Service.close_gain]
    generalize hx : (sv.profileStage.measurementStage _ w).integrationStage _ _ = x
    have hxp : x.profile = sv.profileStage.profile := by rw [← hx]; rfl
    have hxg : x.gain = sv.profileStage.gain := by rw [← hx]; rfl
    rw [← hxp] at hp hg ⊢
    exact Service.gainStage_allows hp (hxg ▸ hg) _ _ _
  · rw [Service.close_gain]
    rfl

end Service.GainLaw

theorem Service.gainLaw_changed {sv sv' : Service} (hc : Service.Change sv sv') (h : sv.GainLaw) : sv'.GainLaw := by
  obtain ⟨hp, hpending, -⟩ := id h
  cases hc with
  | framed i slotsA slotsB => exact h.congr (by simp) (by simp) (by simp) (by simp)
  | closed usableA usableB stamp running => exact h.close _ _ _
  | started entry idle => exact Service.gainLaw_of_initial hp hpending rfl rfl
  | bypassLeft | resumeLeft | halted | bypassed | bypassWaiting | marked | restarted | selected | mapped | unmapped =>
    exact h.congr rfl rfl rfl rfl
  | profilePending accepted running =>
    obtain ⟨-, -, hlo, hhi, hramp⟩ := h
    exact ⟨hp, fun _ hq => Option.some.inj hq ▸ profileOfPayload_valid accepted, hlo, hhi, hramp⟩
  | profiled accepted still => exact Service.gainLaw_of_initial (profileOfPayload_valid accepted) hpending rfl rfl
  | kept => exact Service.gainLaw_of_initial hp (fun _ hq => by cases hq) rfl rfl
  | loaded payload => exact Service.gainLaw_of_initial (loadedProfile_valid payload) (fun _ hq => by cases hq) rfl rfl
  | factory => exact Service.gainLaw_of_initial Profile.factory_valid (fun _ hq => by cases hq) rfl rfl

/-- Settles O58: each law is kept by every change of a record, and a step is a series of changes. -/
theorem gainAndHistogramLawsKept : Obligations.GainAndHistogramLawsKept :=
  ⟨fun _ _ h hstep => (step_changes hstep).keep Service.gainLaw_changed h,
    fun _ _ h hstep => (step_changes hstep).keep Service.histogramLaw_changed h⟩

end Sys2Proof.Machine
end

section
/-! PROOF. Rounding half to even, and the ramps, crossfades and fades that it rounds (00_scope.md, R115, R116, R131, R152):
O10. -/

namespace Sys2Proof.Machine

/-! ### Rounding (00_scope.md) -/

section
variable {num lo hi : Int} {den : Nat} (hden : 0 < den)
include hden

/-- The result is within half a unit, and even at just half a unit. -/
theorem rheDiv_spec (num : Int) :
    |2 * (num - rheDiv num den * den)| ≤ den ∧
      (|2 * (num - rheDiv num den * den)| = den → rheDiv num den % 2 = 0) := by
  have hd : (0 : Int) < den := by exact_mod_cast hden
  have hdiv : num / den * den + num % den = num := Int.ediv_mul_add_emod num den
  have hr0 : 0 ≤ num % den := Int.emod_nonneg _ hd.ne'
  have hr1 : num % den < den := Int.emod_lt_of_pos _ hd
  have hdown : |2 * (num - num / den * den)| = 2 * (num % den) := by
    rw [show num - num / den * den = num % den by linarith]
    exact abs_of_nonneg (by omega)
  have hup : |2 * (num - (num / den + 1) * den)| = 2 * (den - num % den) := by
    rw [show num - (num / den + 1) * den = -(den - num % den) by linarith, mul_neg, abs_neg]
    exact abs_of_nonneg (by omega)
  unfold rheDiv
  dsimp only
  split
  · rw [hdown]
    omega
  split
  · rw [hup]
    omega
  split
  · next heven =>
    rw [hdown]
    exact ⟨by omega, fun _ => heven⟩
  · rw [hup]
    omega

/-- Rounding does not leave an interval with whole ends. -/
theorem rheDiv_within (hlo : lo * den ≤ num) (hhi : num ≤ hi * den) :
    lo ≤ rheDiv num den ∧ rheDiv num den ≤ hi := by
  have hd : (0 : Int) < den := by exact_mod_cast hden
  obtain ⟨hbelow, habove⟩ := abs_le.mp (rheDiv_spec hden num).1
  have hlo' : 2 * lo - 1 ≤ 2 * rheDiv num den := le_of_mul_le_mul_right (by linarith) hd
  have hhi' : 2 * rheDiv num den ≤ 2 * hi + 1 := le_of_mul_le_mul_right (by linarith) hd
  omega

theorem rheDiv_mul_self (k : Int) : rheDiv (k * den) den = k := by
  obtain ⟨hlo, hhi⟩ := rheDiv_within hden (le_refl (k * den)) (le_refl (k * den))
  exact le_antisymm hhi hlo

end

/-- A rounded weighted mean lies between its two values. -/
theorem rheDiv_weighted_within (x y : Int) {a b den : Nat} (hsum : a + b = den) (hden : 0 < den) :
    min x y ≤ rheDiv (x * a + y * b) den ∧ rheDiv (x * a + y * b) den ≤ max x y := by
  subst hsum
  have ha : (0 : Int) ≤ a := a.cast_nonneg
  have hb : (0 : Int) ≤ b := b.cast_nonneg
  refine rheDiv_within hden ?_ ?_ <;> rw [Nat.cast_add, mul_add]
  · exact add_le_add (mul_le_mul_of_nonneg_right (min_le_left x y) ha) (mul_le_mul_of_nonneg_right (min_le_right x y) hb)
  · exact add_le_add (mul_le_mul_of_nonneg_right (le_max_left x y) ha) (mul_le_mul_of_nonneg_right (le_max_right x y) hb)

/-! ### Ramp, crossfade and fade (R115, R131, R152) -/

theorem rampGain_eq (start stop : Int) {i : Nat} (hi : i < 4800) :
    rampGain start stop i = rheDiv (start * (4799 - i : Nat) + stop * (i + 1 : Nat)) 4800 := by
  refine congrArg (rheDiv · 4800) ?_
  push_cast [Nat.cast_sub (Nat.le_of_lt_succ hi)]
  ring

theorem blend_eq (old new : Int) {i : Nat} (hi : i < 480) :
    blend i old new = rheDiv (old * (479 - i : Nat) + new * (i + 1 : Nat)) 480 := by
  refine congrArg (rheDiv · 480) ?_
  push_cast [Nat.cast_sub (Nat.le_of_lt_succ hi)]
  ring

/-- A fade is the crossfade from silence, or to it. -/
theorem faded_fadeIn (i : Nat) (o : Int) : faded (.fadeIn i) o = blend i 0 o := by
  simp [faded, blend]

theorem faded_fadeOut (i : Nat) (o : Int) : faded (.fadeOut i) o = blend i o 0 := by
  simp [faded, blend]

theorem rampGain_within (start stop : Int) {i : Nat} (hi : i < 4800) :
    min start stop ≤ rampGain start stop i ∧ rampGain start stop i ≤ max start stop := by
  rw [rampGain_eq _ _ hi]
  exact rheDiv_weighted_within start stop (by omega) (by decide)

theorem blend_within (old new : Int) {i : Nat} (hi : i < 480) :
    min old new ≤ blend i old new ∧ blend i old new ≤ max old new := by
  rw [blend_eq _ _ hi]
  exact rheDiv_weighted_within old new (by omega) (by decide)

theorem rampGain_last (start stop : Int) : rampGain start stop 4799 = stop := by
  rw [rampGain_eq _ _ (by decide)]
  simpa using rheDiv_mul_self (den := 4800) (by decide) stop

theorem blend_last (old new : Int) : blend 479 old new = new := by
  rw [blend_eq _ _ (by decide)]
  simpa using rheDiv_mul_self (den := 480) (by decide) new

/-- A fade makes no sample larger (R131). -/
theorem faded_natAbs_le (o : Int) {fade : FadeState} (hpos : ∀ k, fade = .fadeIn k ∨ fade = .fadeOut k → k < 480) :
    (faded fade o).natAbs ≤ o.natAbs := by
  cases fade with
  | none => exact le_refl _
  | silent => exact Nat.zero_le _
  | fadeIn k =>
    rw [faded_fadeIn]
    have := blend_within 0 o (hpos k (.inl rfl))
    omega
  | fadeOut k =>
    rw [faded_fadeOut]
    have := blend_within o 0 (hpos k (.inr rfl))
    omega

/-- A sample under a gain up to that of the greatest gain ceiling (R103, R116). -/
theorem gained_natAbs_le {x g : Int} (hx : -8388608 ≤ x) (hx' : x ≤ 8388607) (hg : 0 ≤ g) (hg' : g ≤ 8329135) :
    (gained g x).natAbs ≤ 66633080 := by
  have hprod : |x * g| ≤ 8388608 * 8329135 := by
    rw [abs_mul]
    exact mul_le_mul (abs_le.mpr ⟨hx, by omega⟩) (abs_le.mpr ⟨by omega, hg'⟩) (abs_nonneg _) (by decide)
  obtain ⟨hlo, hhi⟩ := abs_le.mp hprod
  have := rheDiv_within (num := x * g) (lo := -66633080) (hi := 66633080) (den := 1048576) (by decide)
    (by push_cast; omega) (by push_cast; omega)
  rw [gained]
  omega

/-- Settles O10: rounding stays within whole ends, and each of the gains is a rounded weighted mean of its ends. -/
theorem roundingAndRamps : Obligations.RoundingAndRamps := by
  refine ⟨fun num den hden => rheDiv_spec hden num, fun start stop i hi => ?ramp, fun old new i hi => ?crossfade,
    fun o fade hpos => faded_natAbs_le o hpos, fun o => ⟨?fadedIn, ?fadedOut⟩,
    fun x g hx hx' hg hg' => gained_natAbs_le hx hx' hg hg'⟩
  case ramp =>
    obtain ⟨hlo, hhi⟩ := rampGain_within start stop hi
    exact ⟨hlo, hhi, rampGain_last start stop⟩
  case crossfade =>
    obtain ⟨hlo, hhi⟩ := blend_within old new hi
    exact ⟨hlo, hhi, blend_last old new⟩
  case fadedIn => rw [faded_fadeIn, blend_last]
  case fadedOut => rw [faded_fadeOut, blend_last]

end Sys2Proof.Machine
end

section
/-! PROOF. Linear gain and ceiling amplitude are powers of ten rounded to nearest (R103, R123): O11. -/

namespace Sys2Proof.Machine

/-! ### The exact power -/

/-- The power that `scaledPower` rounds. -/
noncomputable def exactPower (s : Nat) (g : Int) : ℝ :=
  (10 : ℝ) ^ ((g : ℝ) / 2000) * 2 ^ s

theorem exactPower_pos (s : Nat) (g : Int) : 0 < exactPower s g := by
  unfold exactPower
  positivity

/-- The 2000th power of twice the exact value is rational, which the comparisons of `scaledPower` rest on. -/
theorem two_mul_exactPower_pow (s : Nat) (g : Int) :
    (2 * exactPower s g) ^ 2000 = (10 : ℝ) ^ g * 2 ^ (2000 * (s + 1)) := by
  have hroot : ((10 : ℝ) ^ ((g : ℝ) / 2000)) ^ 2000 = (10 : ℝ) ^ g := by
    rw [← Real.rpow_mul_natCast (by norm_num), Nat.cast_ofNat, div_mul_cancel₀ _ (by norm_num), Real.rpow_intCast]
  have hsplit : 2 * exactPower s g = (10 : ℝ) ^ ((g : ℝ) / 2000) * 2 ^ (s + 1) := by
    rw [exactPower]
    ring
  rw [hsplit, mul_pow, hroot, ← pow_mul, mul_comm (s + 1)]

theorem exactPower_mono (s : Nat) {g h : Int} (hgh : g ≤ h) : exactPower s g ≤ exactPower s h := by
  have hr : (g : ℝ) ≤ h := by exact_mod_cast hgh
  have hexp : (g : ℝ) / 2000 ≤ h / 2000 := by linarith
  exact mul_le_mul_of_nonneg_right (Real.rpow_le_rpow_of_exponent_le (by norm_num) hexp) (by positivity)

/-- At whole factors of ten the exact value is known. -/
theorem exactPower_decade (s : Nat) (k : Int) : exactPower s (2000 * k) = (10 : ℝ) ^ k * 2 ^ s := by
  rw [exactPower, Int.cast_mul, Int.cast_ofNat, mul_div_cancel_left₀ _ (by norm_num), Real.rpow_intCast]

/-- One cdB more is at least one two-thousandth more. -/
theorem exactPower_succ_ge (s : Nat) (g : Int) : exactPower s g * (1 + 1 / 2000) ≤ exactPower s (g + 1) := by
  have hlog : 1 ≤ Real.log 10 := by
    rw [Real.le_log_iff_exp_le (by norm_num)]
    linarith [Real.exp_one_lt_d9]
  have hroot : 1 + 1 / 2000 ≤ (10 : ℝ) ^ ((1 : ℝ) / 2000) := by
    rw [Real.rpow_def_of_pos (by norm_num)]
    linarith [Real.add_one_le_exp (Real.log 10 * (1 / 2000))]
  have hsucc : exactPower s (g + 1) = exactPower s g * (10 : ℝ) ^ ((1 : ℝ) / 2000) := by
    rw [exactPower, exactPower, Int.cast_add, Int.cast_one, add_div, Real.rpow_add (by norm_num)]
    ring
  rw [hsucc]
  exact mul_le_mul_of_nonneg_left hroot (exactPower_pos s g).le

/-! ### The rounded power -/

/-- A result that fits is the exact value rounded to nearest. -/
theorem scaledPower_eq_round {s : Nat} {g : Int} (hfit : exactPower s g + 1 / 2 < 2 ^ 24) :
    scaledPower s g = round (exactPower s g) := by
  have hpos := exactPower_pos s g
  have hround0 : 0 ≤ round (exactPower s g) := by
    rw [round_eq, Int.le_floor, Int.cast_zero]
    linarith
  have hround1 : round (exactPower s g) < 0 + 2 ^ 24 := by
    rw [round_eq, Int.floor_lt]
    push_cast
    linarith
  refine (climb_eq_max 24 (fun n hn => ?_) hround1).trans (max_eq_right hround0)
  have hn : (0 : ℝ) ≤ 2 * (n : ℝ) - 1 := by
    have : (1 : ℝ) ≤ n := by exact_mod_cast hn
    linarith
  have hexact : n ≤ round (exactPower s g) ↔ (2 * (n : ℝ) - 1) ^ 2000 ≤ (10 : ℝ) ^ g * 2 ^ (2000 * (s + 1)) := by
    rw [round_eq, Int.le_floor, ← two_mul_exactPower_pow, pow_le_pow_iff_left₀ hn (by positivity) (by norm_num)]
    constructor <;> intro h <;> linarith
  rw [hexact]
  split
  · next hg =>
    lift g to ℕ using hg
    rw [decide_eq_true_iff, zpow_natCast, Int.toNat_natCast]
    exact_mod_cast Iff.rfl
  · next hg =>
    obtain ⟨m, rfl⟩ : ∃ m : ℕ, g = -m := ⟨(-g).toNat, by omega⟩
    rw [decide_eq_true_iff, zpow_neg, zpow_natCast, neg_neg, Int.toNat_natCast, le_inv_mul_iff₀ (by positivity), mul_comm]
    exact_mod_cast Iff.rfl

theorem lin_eq_round {g : Int} (hg : g ≤ 1800) : lin g = round (exactPower 20 g) := by
  refine scaledPower_eq_round ?_
  have hle : exactPower 20 g ≤ exactPower 20 (2000 * 1) := exactPower_mono 20 (by omega)
  rw [exactPower_decade] at hle
  norm_num at hle ⊢
  linarith

theorem ceilingAmplitude_eq_round {cp : Int} (hcp : cp ≤ 0) : ceilingAmplitude cp = round (exactPower 23 cp) := by
  refine scaledPower_eq_round ?_
  have hle : exactPower 23 cp ≤ exactPower 23 (2000 * 0) := exactPower_mono 23 (by omega)
  rw [exactPower_decade] at hle
  norm_num at hle ⊢
  linarith

/-- From the least gain on, the exact values of neighbouring gains are more than a unit apart. -/
theorem exactPower_apart {g h : Int} (hg : -2400 ≤ g) (hgh : g < h) : exactPower 20 g + 1 ≤ exactPower 20 h := by
  have hleast : exactPower 20 (2000 * -2) ≤ exactPower 20 g := exactPower_mono 20 (by omega)
  have hstep := exactPower_succ_ge 20 g
  have hnext : exactPower 20 (g + 1) ≤ exactPower 20 h := exactPower_mono 20 hgh
  rw [exactPower_decade] at hleast
  norm_num at hleast
  linarith

theorem lin_lt_lin {g h : Int} (hg : -2400 ≤ g) (hgh : g < h) (hh : h ≤ 1800) : lin g < lin h := by
  have hmono : round (exactPower 20 g + 1) ≤ round (exactPower 20 h) := by
    rw [round_eq, round_eq]
    exact Int.floor_mono (by linarith [exactPower_apart hg hgh])
  rw [round_add_one] at hmono
  rw [lin_eq_round (by omega), lin_eq_round hh]
  omega

/-- Settles O11: both are `round` of their exact power, and neighbouring gains differ by more than a unit. -/
theorem linearGainIsExact : Obligations.LinearGainIsExact := by
  refine ⟨fun g _ hg => ?_, fun g h hg hgh hh => lin_lt_lin hg hgh hh, by decide +kernel, by decide +kernel,
    by decide +kernel, fun cp _ hcp => ?_⟩
  · rw [lin_eq_round hg]
    exact abs_round_sub_le _
  · rw [ceilingAmplitude_eq_round hcp]
    exact abs_round_sub_le _

end Sys2Proof.Machine
end

section
/-! PROOF. The gain action of a close (R101, R106 to R113): O20 and O21. -/

namespace Sys2Proof.Machine

/-! ### The record that a gain step reads -/

/-- The record between the integration stage and the gain step of a close (R106). -/
def Service.gauged (sv : Service) (w : Word32) : Service :=
  (sv.profileStage.measurementStage sv.appends w).integrationStage sv.appends sv.decides

section
variable (sv : Service) (a b : Bool) (w : Word32)

theorem Service.close_gain_gauged :
    (sv.close a b w).service.gain = ((sv.gauged w).gainStage sv.lifecycle sv.entryMarker sv.gain.g).gain :=
  sv.close_gain a b w

@[simp] theorem Service.gauged_profile : (sv.gauged w).profile = sv.pendingProfile.getD sv.profile := by
  simp [Service.gauged]

@[simp] theorem Service.gauged_regain : (sv.gauged w).gain.regain = sv.gain.regain := by
  simp [Service.gauged]

/-- A pending profile clamps G before the step (R101). -/
theorem Service.gauged_g : (sv.gauged w).gain.g = sv.profileStage.gain.g := by
  simp [Service.gauged]

theorem Service.gauged_integ : (sv.gauged w).integ = (sv.close a b w).service.integ :=
  (sv.close_integ a b w).symm

/-- A step of PRIMING or ACTIVE reads M and S as the close leaves them. -/
theorem Service.gauged_meas (h : sv.appends = true) : (sv.gauged w).meas = (sv.close a b w).service.meas := by
  obtain ⟨hm, he⟩ := (Bool.and_eq_true ..).mp h
  rw [sv.close_meas_of_measuring a b w hm (by simpa using he), Service.gauged, h]
  simp [Service.measurementStage]

end

/-! ### The gain action by state (R106, R107, R113) -/

section
variable (sv : Service) (oldG : Int)

theorem Service.gainStage_of_bypass (entry : Bool) :
    (sv.gainStage .bypass entry oldG).gain = { sv.gain with g := 0, rampStart := lin oldG, rampEnd := lin 0 } := rfl

/-- Every action fixes the next ramp from the linear gain before the close to that after it (R113). -/
theorem Service.gainStage_ramp (read : Lifecycle) (entry : Bool) :
    (sv.gainStage read entry oldG).gain.rampStart = lin oldG ∧
      (sv.gainStage read entry oldG).gain.rampEnd = lin (sv.gainStage read entry oldG).gain.g :=
  ⟨rfl, rfl⟩

/-- In DROPPED and HALTING, and at an entry close out of BYPASS, G holds. -/
theorem Service.gainStage_of_hold {read : Lifecycle} {entry : Bool}
    (h : read = .dropped ∨ read = .halting ∨ entry = true ∧ read ≠ .bypass) :
    (sv.gainStage read entry oldG).gain = { sv.gain with rampStart := lin oldG, rampEnd := lin sv.gain.g } := by
  rcases h with rfl | rfl | ⟨rfl, hread⟩
  · rfl
  · rfl
  · cases read with
    | bypass => exact absurd rfl hread
    | vacant | idle | priming | active | dropped | halting => rfl

theorem Service.gainStage_of_regain {read : Lifecycle} (hread : read = .priming ∨ read = .active)
    (hr : sv.gain.regain = true) :
    (sv.gainStage read false oldG).gain =
      { g := sv.profile.initialGain, rampStart := lin oldG, rampEnd := lin sv.profile.initialGain, regain := false } := by
  rcases hread with rfl | rfl <;> simp [Service.gainStage, hr]

theorem Service.gainStage_of_step {read : Lifecycle} (hread : read = .priming ∨ read = .active)
    (hr : sv.gain.regain = false) :
    (sv.gainStage read false oldG).gain.regain = false ∧
      (sv.gainStage read false oldG).gain.g =
        steered sv.profile (read == .priming) sv.meas sv.integ sv.gain.g := by
  rcases hread with rfl | rfl <;> simp [Service.gainStage, hr]

end

/-- Settles O20: the gain stage finds the flag set, and the profile in force. -/
theorem regainStep : Obligations.RegainStep := by
  intro sv a b w hl he hr
  refine ⟨_, rfl, sv.close_profile a b w, ?_⟩
  rw [Service.close_gain_gauged, he, Service.gainStage_of_regain _ _ hl (by simpa using hr), Service.gauged_profile,
    Service.close_profile]

/-! ### The steered step (R108 to R111) -/

/-- The step is frozen without S, and with M below the freeze limit (R108). -/
theorem steered_of_frozen {p : Profile} {m : Measurement}
    (h : m.shortTerm = none ∨ ∃ mom, m.momentary = some mom ∧ mom < p.target - p.freezeDepth) (priming : Bool)
    (i : Integration) (g : Int) : steered p priming m i g = g := by
  unfold steered
  split
  · next mom s hm hs =>
    rcases h with h | ⟨mom', hm', hlow⟩
    · rw [hs] at h
      cases h
    · rw [hm] at hm'
      cases hm'
      exact if_pos hlow
  · rfl

theorem steered_of_live {p : Profile} {m : Measurement} {mom s : Int} (hm : m.momentary = some mom)
    (hs : m.shortTerm = some s) (h : p.target - p.freezeDepth ≤ mom) (priming : Bool) (i : Integration) (g : Int) :
    steered p priming m i g = slew p priming g (desiredGain p g (referenceLoudness p i s)) := by
  simp only [steered, hm, hs]
  exact if_neg (Int.not_lt.mpr h)

/-- Until integration is ready the reference is S (R109). -/
theorem referenceLoudness_of_not_ready {i : Integration} (h : i.total < 300) (p : Profile) (s : Int) :
    referenceLoudness p i s = s := by
  have hready : i.ready = false := by simpa [Integration.ready] using h
  simp [referenceLoudness, hready]

/-- From then on it is the mean of S and I by the agility (R109). -/
theorem referenceLoudness_of_ready {i : Integration} {loud : Int} (h : 300 ≤ i.total) (hi : i.integrated = some loud)
    (p : Profile) (s : Int) :
    referenceLoudness p i s = rheDiv (p.agility * s + (100 - p.agility) * loud) 100 := by
  have hready : i.ready = true := by simpa [Integration.ready] using h
  simp [referenceLoudness, hready, hi]

section
variable {p : Profile} (hp : p.Valid)
include hp

theorem Profile.Valid.floor_le_ceiling : p.gainFloor ≤ p.gainCeiling := by
  unfold Profile.Valid at hp
  omega

theorem Profile.Valid.desiredGain_eq (g reference : Int) :
    desiredGain p g reference = max p.gainFloor (min p.gainCeiling (g + p.target - reference)) :=
  clampTo_eq _ _ _ hp.floor_le_ceiling

/-- Nothing moves at the desired gain, so the slew may be read from its fall (R111). -/
theorem Profile.Valid.slew_eq (priming : Bool) (g d : Int) :
    slew p priming g d =
      if d < g then g - min (g - d) p.fallStep else if priming then g else g + min (d - g) p.riseStep := by
  unfold Profile.Valid at hp
  rcases lt_trichotomy d g with h | rfl | h
  · rw [slew, if_neg h.not_gt, if_pos h]
  · rw [slew, if_neg (lt_irrefl d), if_neg (lt_irrefl d)]
    split <;> omega
  · rw [slew, if_pos h, if_neg h.not_gt]

end

/-! ### The gain action of a close -/

/-- G as the gain step finds it, under a valid profile (R101). -/
theorem Service.profileStage_g_eq {sv : Service} {p : Profile} (hp : p.Valid)
    (hforce : p = sv.pendingProfile.getD sv.profile) :
    sv.profileStage.gain.g =
      if sv.pendingProfile.isSome then max p.gainFloor (min p.gainCeiling sv.gain.g) else sv.gain.g := by
  rw [Service.profileStage_g]
  cases hq : sv.pendingProfile with
  | none => rfl
  | some q =>
    obtain rfl : p = q := by rw [hforce, hq, Option.getD_some]
    exact clampTo_eq _ _ _ hp.floor_le_ceiling

/-- A step of PRIMING or ACTIVE steers by M, S and I as the close leaves them (R106). -/
theorem Service.close_gain_of_step {sv : Service} (hl : sv.lifecycle = .priming ∨ sv.lifecycle = .active)
    (he : sv.entryMarker = false) (hr : sv.gain.regain = false) (a b : Bool) (w : Word32) :
    (sv.close a b w).service.gain.regain = false ∧
      (sv.close a b w).service.gain.g =
        steered (sv.pendingProfile.getD sv.profile) (sv.lifecycle == .priming) (sv.close a b w).service.meas
          (sv.close a b w).service.integ sv.profileStage.gain.g := by
  have happ : sv.appends = true := Service.appends_iff.mpr ⟨by tauto, he⟩
  rw [Service.close_gain_gauged, he, ← sv.gauged_meas a b w happ, ← sv.gauged_integ a b w, ← sv.gauged_profile w,
    ← sv.gauged_g w]
  exact Service.gainStage_of_step _ _ hl (by simpa using hr)

/-- Settles O21: the gain stage by the state that the close reads, with the steered step by freeze, reference and slew. -/
theorem gainAtClose : Obligations.GainAtClose := by
  rintro sv a b w after p g - rfl hforce hg hp
  have hprofile : (sv.close a b w).service.profile = p := hforce ▸ sv.close_profile a b w
  have hstart : sv.profileStage.gain.g = g := hg ▸ Service.profileStage_g_eq hp hforce
  have hgain := sv.close_gain_gauged a b w
  obtain ⟨hrampStart, hrampEnd⟩ := (sv.gauged w).gainStage_ramp sv.gain.g sv.lifecycle sv.entryMarker
  rw [← hgain] at hrampStart hrampEnd
  refine ⟨hprofile, sv.close_pendingProfile a b w, hrampStart, hrampEnd, fun hl => ?bypass, fun hl => ?hold,
    fun hl he hr => ?step⟩
  case bypass =>
    rw [hgain, hl, Service.gainStage_of_bypass]
    exact ⟨rfl, sv.gauged_regain w⟩
  case hold =>
    rw [hgain, Service.gainStage_of_hold _ _ hl]
    exact ⟨(sv.gauged_g w).trans hstart, sv.gauged_regain w⟩
  case step =>
    obtain ⟨hregain, hsteered⟩ := Service.close_gain_of_step hl he hr a b w
    rw [← hforce, hstart] at hsteered
    refine ⟨hregain, fun hfrozen => ?frozen, fun m s reference d hm hs hlive hreference hd => ?live⟩
    case frozen => rw [hsteered, steered_of_frozen hfrozen]
    case live =>
      have href : referenceLoudness p (sv.close a b w).service.integ s = reference := by
        rcases hreference with ⟨hlow, rfl⟩ | ⟨hready, i, hi, rfl⟩
        · exact referenceLoudness_of_not_ready hlow p reference
        · exact referenceLoudness_of_ready hready hi p s
      rw [hsteered, steered_of_live hm hs hlive, href, hp.desiredGain_eq, ← hd, hp.slew_eq]
      simp only [beq_iff_eq]

end Sys2Proof.Machine
end

section
/-! PROOF. PROFILE (R94 to R100): the payload, and the request in every state; O35 and O36. -/

namespace Sys2Proof.Machine

/-! ### The payload (R93, R94, R96) -/

/-- The 17 fields fill 32 bytes (R93). -/
@[simp] theorem Profile.payload_length (p : Profile) : p.payload.length = 32 := by
  simp [Profile.payload, profileTable, Profile.fields]

/-- Settles O35: the round trip, and what check 3 and the clamp of R96 leave. -/
theorem profilePayloadRoundTrip : Obligations.ProfilePayloadRoundTrip :=
  ⟨fun p hp => ⟨p.payload_length, profileOfPayload_payload hp⟩, fun _ _ h => profileOfPayload_valid h⟩

/-! ### The protected fields (R95) -/

section
variable {p reference : Profile}

theorem protectedDiffers_of_target (h : p.target ≠ reference.target) : protectedDiffers p reference = some 1 :=
  if_pos h

theorem protectedDiffers_of_gainCeiling (ht : p.target = reference.target) (h : p.gainCeiling ≠ reference.gainCeiling) :
    protectedDiffers p reference = some 7 := by
  rw [protectedDiffers, if_neg (not_not.mpr ht), if_pos h]

theorem protectedDiffers_of_peakCeiling (ht : p.target = reference.target) (hg : p.gainCeiling = reference.gainCeiling)
    (h : p.peakCeiling ≠ reference.peakCeiling) : protectedDiffers p reference = some 9 := by
  rw [protectedDiffers, if_neg (not_not.mpr ht), if_neg (not_not.mpr hg), if_pos h]

/-- Protection lets a profile pass with the pin low, or with the protected fields as they are. -/
theorem protection_passed {protect : PinLevel}
    (h : protect = .low ∨ p.target = reference.target ∧ p.gainCeiling = reference.gainCeiling ∧
      p.peakCeiling = reference.peakCeiling) :
    (if protect = .high then protectedDiffers p reference else none) = none := by
  rcases h with rfl | ⟨ht, hg, hc⟩
  · rfl
  · rw [protectedDiffers, if_neg (not_not.mpr ht), if_neg (not_not.mpr hg), if_neg (not_not.mpr hc), ite_self]

end

/-! ### The rule of Profile (R94 to R100) -/

section
variable {protect : PinLevel} {n : ServiceIndex} {f : ControlFrame} {s : State} {sv : Service} (hs : s.service n = sv)

theorem profileAct_of_length (hlen : f.payload.length ≠ 32) : profileAct protect n f s = (s, Answer.length f) :=
  if_pos hlen

section
variable (hlen : f.payload.length = 32)
include hlen

theorem profileAct_of_range {index : Nat} (herr : profileOfPayload f.payload = .error index) :
    profileAct protect n f s = (s, { status := .range, detail := [byteOf index] }) := by
  simp [profileAct, hlen, herr]

variable {p : Profile} (hok : profileOfPayload f.payload = .ok p)
include hs hok

theorem profileAct_of_protected {index : Byte} (hpin : protect = .high)
    (hd : protectedDiffers p (sv.pendingProfile.getD sv.profile) = some index) :
    profileAct protect n f s = (s, { status := .protectedField, detail := [index] }) := by
  simp [profileAct, hlen, hok, hs, hpin, hd]

section
variable (hpass : (if protect = .high then protectedDiffers p (sv.pendingProfile.getD sv.profile) else none) = none)
include hpass

theorem profileAct_of_running (hl : sv.lifecycle.running = true) :
    profileAct protect n f s =
      (s.setService n { sv with pendingProfile := some p }, Answer.ok [if sv.pendingProfile = none then 1 else 2]) := by
  have hcount : (if sv.pendingProfile.isSome then 2 else 1 : Byte) = if sv.pendingProfile = none then 1 else 2 := by
    cases sv.pendingProfile <;> rfl
  rw [profileAct, ← hcount]
  simp only [hlen, hok, hs, hpass, hl, ne_eq, not_true_eq_false, if_false, if_true]

theorem profileAct_at_once (hl : sv.lifecycle.running = false) :
    profileAct protect n f s = (s.setService n (sv.profiledAtOnce p), Answer.ok [0]) := by
  rw [profileAct]
  simp only [hlen, hok, hs, hpass, hl, ne_eq, not_true_eq_false, Bool.false_eq_true, if_false]

end

end

end

/-- A served Profile, which has read PROTECT (log 5). -/
theorem exec_profile_answered {s : State} {protect : PinLevel} {f : ControlFrame} {rest : List ControlFrame} {a : Answer}
    (h : Serving s 0x12 f rest) (t : State)
    (hact : onService (profileAct protect) f (s.dequeued.sampleProtect protect) = ((t.sampleProtect protect).dequeued, a))
    (hc : t.control = s.control) (ho : t.operating = s.operating) :
    exec (.profile protect) s =
      .next ((t.sampleProtect protect).answered rest
        { kind := 0x92, tag := f.tag, unit := f.unit, payload := a.status.code :: a.detail } .ordinary) :=
  congrArg Host.Outcome.next (serve_answered h hact hc ((t.sampleProtect_operating protect).trans ho))

namespace Settled

/-- Settles O36: each clause is one branch of `profileAct`, served. -/
theorem profileRequest : Obligations.ProfileRequest := by
  intro s f rest protect h
  refine ⟨fun hu => ?unit, fun n sv hu hs => ?service⟩
  case unit => exact exec_profile_answered h s (onService_of_no_service (act := profileAct protect) hu _) rfl rfl
  have hact := onService_of_unit (act := profileAct protect) hu (s.dequeued.sampleProtect protect)
  have hs : (s.dequeued.sampleProtect protect).service n = sv := hs
  refine ⟨fun hlen => ?length, fun hlen => ⟨fun index herr => ?range, ?accepted⟩⟩
  case length => exact exec_profile_answered h s (hact.trans (profileAct_of_length hlen)) rfl rfl
  case range => exact exec_profile_answered h s (hact.trans (profileAct_of_range hlen herr)) rfl rfl
  rintro p reference hok rfl
  have hrefused : ∀ index, protect = .high → protectedDiffers p (sv.pendingProfile.getD sv.profile) = some index → _ :=
    fun index hpin hd => exec_profile_answered h s (hact.trans (profileAct_of_protected hs hlen hok hpin hd)) rfl rfl
  refine ⟨fun hpin ht => hrefused 1 hpin (protectedDiffers_of_target ht),
    fun hpin ht hg => hrefused 7 hpin (protectedDiffers_of_gainCeiling ht hg),
    fun hpin ht hg hc => hrefused 9 hpin (protectedDiffers_of_peakCeiling ht hg hc),
    fun hfree => ⟨fun hl => ?running, fun hl => ?atOnce⟩⟩
  case running =>
    have hdone := profileAct_of_running hs hlen hok (protection_passed hfree) hl
    exact exec_profile_answered h (s.setService n { sv with pendingProfile := some p }) (hact.trans hdone) rfl rfl
  case atOnce =>
    have hdone := profileAct_at_once hs hlen hok (protection_passed hfree) hl
    exact exec_profile_answered h (s.setService n (sv.profiledAtOnce p)) (hact.trans hdone) rfl rfl

end Settled

end Sys2Proof.Machine
end

section
/-! PROOF. The required gain of a peak and the gain ramp of a segment in OUTPUT (R124, R126 to R128): O14. -/

namespace Sys2Proof.Machine

/-! ### The required gain (R124) -/

theorem requiredGain_zero (c : Int) : requiredGain c 0 = 1048576 := rfl

theorem requiredGain_of_pos (c : Int) {pk : Nat} (hpk : 0 < pk) :
    requiredGain c pk = min 1048576 (c * 1048576 / pk) :=
  if_neg hpk.ne'

theorem requiredGain_le_unity (c : Int) (pk : Nat) : requiredGain c pk ≤ 1048576 := by
  rcases Nat.eq_zero_or_pos pk with rfl | hpk
  · exact le_refl _
  · rw [requiredGain_of_pos c hpk]
    exact min_le_left _ _

/-- Below unity a greater gain would bring the peak above the ceiling. -/
theorem lt_mul_of_requiredGain_lt {c : Int} {pk : Nat} (h : requiredGain c pk < 1048576) :
    c * 1048576 < (requiredGain c pk + 1) * pk := by
  rcases Nat.eq_zero_or_pos pk with rfl | hpk
  · exact absurd h (lt_irrefl _)
  · rw [requiredGain_of_pos c hpk] at h ⊢
    rw [min_eq_right ((min_lt_iff.mp h).resolve_left (lt_irrefl _)).le]
    exact Int.lt_ediv_add_one_mul_self _ (by exact_mod_cast hpk)

section
variable {c : Int} (hc : 0 ≤ c) (pk : Nat)
include hc

theorem requiredGain_nonneg : 0 ≤ requiredGain c pk := by
  rcases Nat.eq_zero_or_pos pk with rfl | hpk
  · rw [requiredGain_zero]
    decide
  · rw [requiredGain_of_pos c hpk]
    exact le_min (by decide) (Int.ediv_nonneg (by omega) pk.cast_nonneg)

theorem requiredGain_mul_le : requiredGain c pk * pk ≤ c * 1048576 := by
  rcases Nat.eq_zero_or_pos pk with rfl | hpk
  · rw [Nat.cast_zero, mul_zero]
    omega
  · rw [requiredGain_of_pos c hpk]
    exact (mul_le_mul_of_nonneg_right (min_le_right _ _) pk.cast_nonneg).trans
      (Int.ediv_mul_le _ (by exact_mod_cast hpk.ne'))

/-- A sample up to the peak, under a gain up to the required one, stays at the ceiling or below (R128). -/
theorem limited_natAbs_le {u gl : Int} (hu : u.natAbs ≤ pk) (hgl : 0 ≤ gl) (hle : gl ≤ requiredGain c pk) :
    (rheDiv (u * gl) 1048576).natAbs ≤ c.toNat := by
  have hprod : |u * gl| ≤ c * 1048576 := by
    calc |u * gl| = |u| * gl := by rw [abs_mul, abs_of_nonneg hgl]
      _ ≤ pk * requiredGain c pk :=
        mul_le_mul (by rw [Int.abs_eq_natAbs]; exact_mod_cast hu) hle hgl pk.cast_nonneg
      _ ≤ c * 1048576 := by rw [mul_comm]; exact requiredGain_mul_le hc pk
  obtain ⟨hlo, hhi⟩ := abs_le.mp hprod
  have := rheDiv_within (num := u * gl) (lo := -c) (hi := c) (den := 1048576) (by decide)
    (by push_cast; omega) (by push_cast; omega)
  omega

end

/-! ### The gain ramp of a segment in OUTPUT (R126) -/

section
variable (out : SegmentOutput)

theorem limiterGain_eq {i : Nat} (hi : i < 16) :
    limiterGain out i = rheDiv (out.rampStart * (15 - i : Nat) + out.gain * (i + 1 : Nat)) 16 := by
  refine congrArg (rheDiv · 16) ?_
  push_cast [Nat.cast_sub (Nat.le_of_lt_succ hi)]
  ring

theorem limiterGain_within {i : Nat} (hi : i < 16) :
    min out.rampStart out.gain ≤ limiterGain out i ∧ limiterGain out i ≤ max out.rampStart out.gain := by
  rw [limiterGain_eq out hi]
  exact rheDiv_weighted_within _ _ (by omega) (by decide)

/-- Between two gains up to some gain the ramp stays up to it (R127). -/
theorem limiterGain_le {i : Nat} (hi : i < 16) {g : Int} (hstart : 0 ≤ out.rampStart) (hstartLe : out.rampStart ≤ g)
    (hgain : 0 ≤ out.gain) (hgainLe : out.gain ≤ g) : 0 ≤ limiterGain out i ∧ limiterGain out i ≤ g := by
  obtain ⟨hlo, hhi⟩ := limiterGain_within out hi
  exact ⟨(le_min hstart hgain).trans hlo, hhi.trans (max_le hstartLe hgainLe)⟩

theorem limiterGain_last : limiterGain out 15 = out.gain := by
  rw [limiterGain_eq out (by decide)]
  simpa using rheDiv_mul_self (den := 16) (by decide) out.gain

end

/-- Settles O14: the required gain is a floored quotient, and the limiter gain lies between two gains up to it. -/
theorem limitedSampleWithinCeiling : Obligations.LimitedSampleWithinCeiling := by
  refine ⟨fun c pk hc => ⟨requiredGain_nonneg hc pk, requiredGain_le_unity c pk, requiredGain_mul_le hc pk,
    lt_mul_of_requiredGain_lt⟩, limiterGain_last, fun c u pk i out hc hu hi hstart hstartLe hgain hgainLe => ?_⟩
  obtain ⟨hnonneg, hle⟩ := limiterGain_le out hi hstart hstartLe hgain hgainLe
  exact ⟨hnonneg, hle, limited_natAbs_le hc pk hu hnonneg hle⟩

end Sys2Proof.Machine
end

section
/-! PROOF. The segment peak as the largest magnitude over the samples and intermediate points about a segment (R120 to R122). -/

namespace Sys2Proof.Machine

/-! ### Largest magnitudes -/

/-- `pk` is the largest magnitude of the values of a set, 0 for an empty one. -/
def IsPeak (values : Int → Prop) (pk : Nat) : Prop :=
  (∀ v, values v → v.natAbs ≤ pk) ∧ (pk = 0 ∨ ∃ v, values v ∧ v.natAbs = pk)

theorem IsPeak.of_empty {values : Int → Prop} (h : ∀ v, ¬values v) : IsPeak values 0 :=
  ⟨fun v hv => absurd hv (h v), .inl rfl⟩

theorem IsPeak.singleton (v : Int) : IsPeak (· = v) v.natAbs :=
  ⟨fun _ hv => hv ▸ le_refl _, .inr ⟨v, rfl, rfl⟩⟩

theorem IsPeak.congr {p q : Int → Prop} {pk : Nat} (h : IsPeak p pk) (hpq : ∀ v, p v ↔ q v) : IsPeak q pk := by
  rwa [← funext fun v => propext (hpq v)]

theorem IsPeak.max {p q : Int → Prop} {a b : Nat} (hp : IsPeak p a) (hq : IsPeak q b) :
    IsPeak (fun v => p v ∨ q v) (max a b) := by
  obtain ⟨hpa, ha⟩ := hp
  obtain ⟨hqb, hb⟩ := hq
  refine ⟨fun v hv => hv.elim (fun h => le_max_of_le_left (hpa v h)) fun h => le_max_of_le_right (hqb v h), ?_⟩
  rcases max_choice a b with h | h <;> rw [h]
  · exact ha.imp_right fun ⟨v, hv, he⟩ => ⟨v, .inl hv, he⟩
  · exact hb.imp_right fun ⟨v, hv, he⟩ => ⟨v, .inr hv, he⟩

theorem foldl_max_cons (a : Nat) (l : List Nat) : (a :: l).foldl max 0 = max a (l.foldl max 0) := by
  rw [List.foldl_cons, max_comm 0 a, List.foldl_assoc]

theorem le_foldl_max {a : Nat} {l : List Nat} (h : a ∈ l) : a ≤ l.foldl max 0 := by
  induction l with
  | nil => exact absurd h List.not_mem_nil
  | cons b l ih =>
    rw [foldl_max_cons]
    rcases List.mem_cons.mp h with rfl | h
    · exact le_max_left _ _
    · exact le_max_of_le_right (ih h)

/-- The largest of the peaks of several sets is that of their union. -/
theorem isPeak_foldl_max {α : Type} {values : α → Int → Prop} {peak : α → Nat} {xs : List α}
    (h : ∀ x ∈ xs, IsPeak (values x) (peak x)) :
    IsPeak (fun v => ∃ x ∈ xs, values x v) ((xs.map peak).foldl max 0) := by
  induction xs with
  | nil => exact .of_empty fun v ⟨x, hx, _⟩ => absurd hx List.not_mem_nil
  | cons x xs ih =>
    obtain ⟨hx, hxs⟩ := List.forall_mem_cons.mp h
    rw [List.map_cons, foldl_max_cons]
    exact (hx.max (ih hxs)).congr fun v => by simp only [List.mem_cons, or_and_right, exists_or, exists_eq_left]

theorem maxMagnitude_isPeak (vs : List Int) : IsPeak (· ∈ vs) (maxMagnitude vs) := by
  have h := isPeak_foldl_max (values := fun x v => v = x) (peak := Int.natAbs) (xs := vs) fun x _ => .singleton x
  rw [List.foldl_map] at h
  exact h.congr fun v => exists_eq_right'

/-! ### Intermediate points (R121) -/

/-- The three points of the interval that the four samples from `j` on determine. -/
def windowPoints (u : Nat → Int) (j : Nat) : List Int :=
  intervalPoints (u j) (u (j + 1)) (u (j + 2)) (u (j + 3))

theorem pointsPeak_isPeak (us : List Int) :
    IsPeak (fun v => ∃ j, j + 3 < us.length ∧ v ∈ windowPoints (us.getD · 0) j) (pointsPeak us) := by
  induction us with
  | nil => exact .of_empty fun v ⟨j, hj, _⟩ => absurd hj (Nat.not_lt_zero _)
  | cons u0 tail ih =>
    match tail, ih with
    | [], _ | [u1], _ | [u1, u2], _ =>
      refine .of_empty fun v ⟨j, hj, _⟩ => ?_
      simp only [List.length_cons, List.length_nil] at hj
      omega
    | u1 :: u2 :: u3 :: rest, ih =>
      refine ((maxMagnitude_isPeak _).max ih).congr fun v => ⟨?_, ?_⟩
      · rintro (hv | ⟨j, hj, hv⟩)
        · exact ⟨0, by simp, hv⟩
        · exact ⟨j + 1, by simpa using hj, hv⟩
      · rintro ⟨j, hj, hv⟩
        cases j with
        | zero => exact .inl hv
        | succ j => exact .inr ⟨j, by simpa using hj, hv⟩

/-! ### The segment peak (R120, R122) -/

/-- The samples that a channel's points are formed of, in order: the last two of the segment before (zeros after a clearing,
R120), its own, and the first of the segment after (R122). -/
def lineup (before lane : List Int) (next : Int) : List Int :=
  ([0, 0] ++ before).drop before.length ++ lane ++ [next]

section
variable {before lane : List Int} (next : Int) (hlane : lane.length = 16)
include hlane

theorem lineup_length : (lineup before lane next).length = 19 := by
  rw [lineup, List.length_append, List.length_append, List.length_drop, List.length_append, hlane]
  show 2 + before.length - before.length + 16 + 1 = 19
  omega

theorem lineup_eq (h : before = [] ∨ before.length = 16) :
    lineup before lane next = before.getD 14 0 :: before.getD 15 0 :: (lane ++ [next]) := by
  refine List.ext_getElem ?_ fun i _ _ => ?_
  · rw [lineup_length next hlane]
    simp [hlane]
  rcases h with rfl | h
  · rfl
  · match i with
    | 0 | 1 | k + 2 => simp [lineup, h]

end

section
variable {before : Option Segment} {seg : Segment} (after : Segment) {c : Nat}

/-- Channel `c` of the segment before, where the queue has one. -/
def laneBefore (before : Option Segment) (c : Nat) : List Int :=
  (before.map fun b => b.lanes.getD c []).getD []

theorem sampleAbout_of_before {j : Nat} (hj : j < 2) :
    sampleAbout before seg after c j = (laneBefore before c).getD (14 + j) 0 := by
  unfold sampleAbout
  rw [if_pos hj]
  cases before <;> rfl

theorem sampleAbout_of_own {j : Nat} (hj : j < 16) :
    sampleAbout before seg after c (j + 2) = (seg.lanes.getD c []).getD j 0 := by
  unfold sampleAbout
  rw [if_neg (by omega), if_pos (by omega), Nat.add_sub_cancel]

theorem sampleAbout_of_after : sampleAbout before seg after c 18 = (after.lanes.getD c []).headD 0 := by
  show (after.lanes.getD c []).getD 0 0 = _
  cases after.lanes.getD c [] <;> rfl

theorem laneBefore_length (hb : ∀ b, before = some b → ∀ lane ∈ b.lanes, lane.length = 16) :
    laneBefore before c = [] ∨ (laneBefore before c).length = 16 := by
  cases before with
  | none => exact .inl rfl
  | some b =>
    rcases lt_or_ge c b.lanes.length with hc | hc
    · refine .inr (hb b rfl _ ?_)
      show b.lanes.getD c [] ∈ b.lanes
      rw [List.getD_eq_getElem _ _ hc]
      exact List.getElem_mem hc
    · exact .inl (List.getD_eq_default _ _ hc)

section
variable (hb : ∀ b, before = some b → ∀ lane ∈ b.lanes, lane.length = 16)
  (hlane : (seg.lanes.getD c []).length = 16)
include hlane

/-- The samples of a channel's own segment. -/
theorem mem_lane_iff {v : Int} : v ∈ seg.lanes.getD c [] ↔ ∃ j < 16, v = sampleAbout before seg after c (j + 2) := by
  rw [List.mem_iff_getElem]
  constructor
  · rintro ⟨j, hj, rfl⟩
    have hj16 : j < 16 := hlane ▸ hj
    exact ⟨j, hj16, by rw [sampleAbout_of_own after hj16, List.getD_eq_getElem _ _ hj]⟩
  · rintro ⟨j, hj, rfl⟩
    have hj' : j < (seg.lanes.getD c []).length := hlane.symm ▸ hj
    exact ⟨j, hj', by rw [sampleAbout_of_own after hj, List.getD_eq_getElem _ _ hj']⟩

include hb

theorem lineup_getD {j : Nat} (hj : j < 19) :
    (lineup (laneBefore before c) (seg.lanes.getD c []) ((after.lanes.getD c []).headD 0)).getD j 0 =
      sampleAbout before seg after c j := by
  rw [lineup_eq _ hlane (laneBefore_length hb)]
  match j, hj with
  | 0, _ => exact (sampleAbout_of_before (seg := seg) after Nat.two_pos).symm
  | 1, _ => exact (sampleAbout_of_before (seg := seg) after Nat.one_lt_two).symm
  | k + 2, hk =>
    rw [List.getD_cons_succ, List.getD_cons_succ]
    rcases lt_or_ge k 16 with hk16 | hk16
    · rw [sampleAbout_of_own after hk16, List.getD_append _ _ _ _ (hlane.symm ▸ hk16)]
    · obtain rfl : k = 16 := by omega
      rw [List.getD_append_right _ _ _ _ (le_of_eq hlane), hlane]
      exact (sampleAbout_of_after after).symm

/-- What channel `c` brings to the segment peak (R122). -/
theorem lanePeak_isPeak :
    IsPeak
      (fun v => ∃ j < 16, v ∈ sampleAbout before seg after c (j + 2) :: windowPoints (sampleAbout before seg after c) j)
      (lanePeak (laneBefore before c) (seg.lanes.getD c []) ((after.lanes.getD c []).headD 0)) := by
  have hwindow : ∀ j < 16, windowPoints
      ((lineup (laneBefore before c) (seg.lanes.getD c []) ((after.lanes.getD c []).headD 0)).getD · 0) j =
        windowPoints (sampleAbout before seg after c) j := by
    intro j hj
    simp only [windowPoints]
    rw [lineup_getD after hb hlane (by omega), lineup_getD after hb hlane (by omega),
      lineup_getD after hb hlane (by omega), lineup_getD after hb hlane (by omega)]
  refine ((maxMagnitude_isPeak _).max (pointsPeak_isPeak (lineup _ _ _))).congr fun v => ?_
  rw [lineup_length _ hlane, mem_lane_iff after hlane (before := before)]
  constructor
  · rintro (⟨j, hj, hv⟩ | ⟨j, hj, hv⟩)
    · exact ⟨j, hj, List.mem_cons.mpr (.inl hv)⟩
    · exact ⟨j, by omega, List.mem_cons_of_mem _ (hwindow j (by omega) ▸ hv)⟩
  · rintro ⟨j, hj, hv⟩
    rcases List.mem_cons.mp hv with hv | hv
    · exact .inl ⟨j, hj, hv⟩
    · exact .inr ⟨j, by omega, (hwindow j hj).symm ▸ hv⟩

end

theorem segmentPeak_eq :
    segmentPeak before seg after =
      ((List.range seg.lanes.length).map fun c =>
        lanePeak (laneBefore before c) (seg.lanes.getD c []) ((after.lanes.getD c []).headD 0)).foldl max 0 := by
  refine congrArg (List.foldl max 0) (List.ext_getElem (by simp) fun c hc _ => ?_)
  have hc' : c < seg.lanes.length := by simpa using hc
  simp only [List.getElem_map, List.getElem_zipIdx, List.getElem_range, List.getD_eq_getElem _ _ hc', Nat.zero_add]
  rfl

/-- The segment peak is the largest magnitude over all channels (R122). -/
theorem segmentPeak_isPeak (hb : ∀ b, before = some b → ∀ lane ∈ b.lanes, lane.length = 16)
    (hlanes : ∀ lane ∈ seg.lanes, lane.length = 16) :
    IsPeak
      (fun v => ∃ c < seg.lanes.length, ∃ j < 16,
        v ∈ sampleAbout before seg after c (j + 2) :: windowPoints (sampleAbout before seg after c) j)
      (segmentPeak before seg after) := by
  rw [segmentPeak_eq]
  refine (isPeak_foldl_max fun c hc => lanePeak_isPeak after hb ?_).congr fun v => ?_
  · rw [List.getD_eq_getElem _ _ (List.mem_range.mp hc)]
    exact hlanes _ (List.getElem_mem _)
  · simp only [List.mem_range]

/-- Whatever the segments about it hold, the segment peak bounds the segment's own samples. -/
theorem natAbs_le_segmentPeak {lane : List Int} (hlane : lane ∈ seg.lanes) {u : Int} (hu : u ∈ lane) :
    u.natAbs ≤ segmentPeak before seg after := by
  obtain ⟨c, hc, rfl⟩ := List.mem_iff_getElem.mp hlane
  obtain ⟨hle, -⟩ := maxMagnitude_isPeak seg.lanes[c]
  rw [segmentPeak_eq]
  have hlanePeak : maxMagnitude seg.lanes[c] ≤
      lanePeak (laneBefore before c) (seg.lanes.getD c []) ((after.lanes.getD c []).headD 0) := by
    rw [List.getD_eq_getElem _ _ hc]
    exact le_max_left _ _
  exact ((hle u hu).trans hlanePeak).trans (le_foldl_max (List.mem_map_of_mem (List.mem_range.mpr hc)))

end

end Sys2Proof.Machine
end

section
/-! PROOF. The limiter at every frame of a segment (R119, R126, R128): what each of its steps leaves of the queue; O16. -/

namespace Sys2Proof.Machine

/-! ### The queue at a frame (R119, steps 1 and 2) -/

/-- An entry as it goes from COMPLETE to WAITING (R119, R124). -/
def Segment.peaked (seg : Segment) (c : Int) (pk : Nat) : Segment :=
  { seg with peak := some pk, required := some (requiredGain c pk) }

theorem enqueue_nil (us : List Int) : enqueue [] false us = [] := rfl

theorem enqueue_snoc (entries : List Segment) (last : Segment) (us : List Int) :
    enqueue (entries ++ [last]) false us = entries ++ [last.filledBy us] := by
  simp [enqueue]

/-- A COMPLETE entry gets its peak when the next one begins. -/
theorem formPeak_snoc {entries : List Segment} {last : Segment} (h : last.stage = .complete) (cp : Int) (newest : Segment) :
    formPeak cp (entries ++ [last, newest]) =
      entries ++ [last.peaked (ceilingAmplitude cp) (segmentPeak entries.getLast? last newest), newest] := by
  simp [formPeak, h, Segment.peaked, List.head?_reverse]

/-! ### Output (R119, steps 3 to 5) -/

section
variable (l : Limiter) (release : Int) (i channels : Nat)

theorem Limiter.outputStarted_of_short {l : Limiter} (h : l.queue.length ≠ 8) : l.outputStarted release = l := by
  unfold Limiter.outputStarted
  split
  · exact if_neg h
  · rfl

variable {l}

theorem Limiter.outputStarted_of_full {oldest : Segment} {rest : List Segment} (hq : l.queue = oldest :: rest)
    (h : l.queue.length = 8) :
    l.outputStarted release =
      { l with
        queue :=
          { oldest with
            output :=
              some
                { rampStart := min l.lastGain (oldest.required.getD 1048576)
                  gain := windowGain l.lastGain release (oldest :: rest) } } :: rest
        lastGain := windowGain l.lastGain release (oldest :: rest) } := by
  unfold Limiter.outputStarted
  split
  · next hq' =>
    cases hq.symm.trans hq'
    rw [if_pos h, hq]
    rfl
  · next hq' => cases hq.symm.trans hq'

theorem Limiter.output_of_none (h : ∀ seg ∈ l.queue.head?, seg.output = none) :
    l.output i channels = (l, List.replicate channels 0) := by
  unfold Limiter.output
  split
  · next oldest rest hq =>
    rw [h oldest (by rw [hq]; rfl)]
  · rfl

theorem Limiter.output_of_some {oldest : Segment} {rest : List Segment} {out : SegmentOutput}
    (hq : l.queue = oldest :: rest) (ho : oldest.output = some out) :
    l.output i channels =
      ({ l with
          queue := if i = 15 then rest else oldest :: rest
          subMin := min l.subMin (limiterGain out i) },
        oldest.lanes.map fun lane => rheDiv (lane.getD i 0 * limiterGain out i) 1048576) := by
  unfold Limiter.output
  rw [hq]
  simp [ho, Config.framesPerSegment]

end

/-! ### A frame of the limiter (R119) -/

section
variable {l : Limiter} (cp release : Int) (us : List Int)

/-- The limiter as the first frame of a segment enters its queue and the peak before it is formed. -/
def Limiter.segmentBegun (l : Limiter) (cp : Int) (us : List Int) : Limiter :=
  { l with queue := formPeak cp (l.queue ++ [Segment.begun us]) }

theorem Limiter.limit_first :
    l.limit 0 cp release us = ((l.segmentBegun cp us).outputStarted release).output 0 us.length := rfl

theorem Limiter.limit_later {i : Nat} (hi : 0 < i) :
    l.limit i cp release us = { l with queue := enqueue l.queue false us }.output i us.length := by
  have hnot : (i == 0) = false := beq_false_of_ne hi.ne'
  simp [Limiter.limit, hnot, hi.ne']

/-- With no entry in OUTPUT and fewer than 8 a first frame gives silence (R128). -/
theorem Limiter.limit_first_of_short (hlen : (l.segmentBegun cp us).queue.length ≠ 8)
    (hout : ∀ seg ∈ (l.segmentBegun cp us).queue.head?, seg.output = none) :
    l.limit 0 cp release us = (l.segmentBegun cp us, us.map fun _ => 0) := by
  rw [Limiter.limit_first, Limiter.outputStarted_of_short _ hlen, Limiter.output_of_none _ _ hout, List.map_const']

theorem Limiter.limit_first_of_full {oldest : Segment} {rest : List Segment} {out : SegmentOutput}
    (hq : (l.segmentBegun cp us).queue = oldest :: rest) (hlen : (oldest :: rest).length = 8)
    (hout : out =
      { rampStart := min l.lastGain (oldest.required.getD 1048576)
        gain := windowGain l.lastGain release (oldest :: rest) }) :
    l.limit 0 cp release us =
      ({ l with
          queue := { oldest with output := some out } :: rest
          lastGain := out.gain
          subMin := min l.subMin (limiterGain out 0) },
        oldest.lanes.map fun lane => rheDiv (lane.getD 0 0 * limiterGain out 0) 1048576) := by
  subst hout
  rw [Limiter.limit_first, Limiter.outputStarted_of_full _ hq (hq ▸ hlen), Limiter.output_of_some _ _ rfl rfl]
  rfl

theorem Limiter.limit_empty (hq : l.queue = []) :
    l.limit 0 cp release us = ({ l with queue := [Segment.begun us] }, us.map fun _ => 0) := by
  have hbegun : (l.segmentBegun cp us).queue = [Segment.begun us] := by
    rw [Limiter.segmentBegun, hq]
    rfl
  rw [Limiter.limit_first_of_short cp release us (by simp [hbegun]) (by simp [hbegun, Segment.begun]),
    ← hbegun]
  rfl

theorem Limiter.segmentBegun_queue {entries : List Segment} {last : Segment} (hq : l.queue = entries ++ [last])
    (h : last.stage = .complete) :
    (l.segmentBegun cp us).queue =
      entries ++
        [last.peaked (ceilingAmplitude cp) (segmentPeak entries.getLast? last (Segment.begun us)), Segment.begun us] := by
  rw [← formPeak_snoc h, Limiter.segmentBegun, hq, List.append_assoc]
  rfl

section
variable {i : Nat} (hi : 0 < i) {entries rest : List Segment} {last oldest : Segment} (hq : l.queue = entries ++ [last])
  (hfilled : entries ++ [last.filledBy us] = oldest :: rest)
include hi hq hfilled

theorem Limiter.limit_later_of_none (ho : oldest.output = none) :
    l.limit i cp release us = ({ l with queue := oldest :: rest }, us.map fun _ => 0) := by
  rw [Limiter.limit_later _ _ _ hi, hq, enqueue_snoc, hfilled, Limiter.output_of_none _ _ (by simpa using ho), List.map_const']

theorem Limiter.limit_later_of_some {out : SegmentOutput} (ho : oldest.output = some out) :
    l.limit i cp release us =
      ({ l with
          queue := if i = 15 then rest else oldest :: rest
          subMin := min l.subMin (limiterGain out i) },
        oldest.lanes.map fun lane => rheDiv (lane.getD i 0 * limiterGain out i) 1048576) := by
  rw [Limiter.limit_later _ _ _ hi, hq, enqueue_snoc, hfilled, Limiter.output_of_some _ _ rfl ho]

end

end

/-- The window of R126 is the oldest entry, whose required gain comes with the release bound, and the six after it. -/
theorem windowGain_cons (lastGain release : Int) (oldest : Segment) (rest : List Segment) :
    windowGain lastGain release (oldest :: rest) =
      ((rest.take 6).map fun seg => seg.required.getD 1048576).foldl min
        (min (oldest.required.getD 1048576) (lastGain + release)) := by
  rw [List.foldl_map, min_comm]
  rfl

/-- Settles O16: `segmentPeak_isPeak` gives the peak, and each other clause is one of the equations of `Limiter.limit`. -/
theorem segmentBoundary : Obligations.SegmentBoundary := by
  refine ⟨?peak, fun l cp release us hq => Limiter.limit_empty cp release us hq, ?later, ?first⟩
  case peak =>
    rintro before seg after pk hb hlanes rfl points
    obtain ⟨hle, hmax⟩ := segmentPeak_isPeak after hb hlanes
    refine ⟨fun c j hc hj v hv => hle v ⟨c, hc, j, hj, hv⟩, hmax.imp_right ?_⟩
    rintro ⟨v, ⟨c, hc, j, hj, hv⟩, hpk⟩
    exact ⟨c, j, hc, hj, v, hv, hpk⟩
  case later =>
    intro l cp release us i entries last oldest rest hi _ hq hfilled
    exact ⟨Limiter.limit_later_of_none cp release us hi hq hfilled,
      fun out => Limiter.limit_later_of_some cp release us hi hq hfilled⟩
  case first =>
    intro l cp release us entries last hq hstage pk waiting queue
    have hbegun : (l.segmentBegun cp us).queue = queue := Limiter.segmentBegun_queue cp us hq hstage
    refine ⟨fun hlen hout => ?_, fun oldest rest hcons hlen r hr => ⟨_, rfl, ?_⟩⟩
    · rw [Limiter.limit_first_of_short cp release us (hbegun ▸ hlen) (hbegun ▸ hout), ← hbegun]
      rfl
    · refine Limiter.limit_first_of_full cp release us (hbegun.trans hcons) (hcons ▸ hlen) ?_
      rw [windowGain_cons, hr]
      rfl

end Sys2Proof.Machine
end

section
/-! PROOF. A frame of a lawful limiter (R118, R119, R126 to R128): its queue stays lawful and its limited samples stay at the
ceiling or below. -/

namespace Sys2Proof.Machine

/-! ### One entry -/

/-- The newest entry at position `pos` of a segment, its next frame's position (R118, R119). -/
def Segment.Filling (seg : Segment) (pos channels : Nat) : Prop :=
  seg.peak = none ∧ seg.output = none ∧ seg.lanes.length = channels ∧
    ∀ lane ∈ seg.lanes, lane.length = if pos = 0 then 16 else pos

/-- An entry behind the newest: lawful, with its peak formed (R119). -/
def Segment.Formed (seg : Segment) (c : Int) : Prop :=
  seg.Lawful c ∧ seg.peak.isSome = true

theorem Segment.begun_filling (us : List Int) : (Segment.begun us).Filling 1 us.length := by
  refine ⟨rfl, rfl, by simp [Segment.begun], fun lane hlane => ?_⟩
  obtain ⟨u, -, rfl⟩ := List.mem_map.mp hlane
  rfl

namespace Segment.Filling

variable {seg : Segment} {pos channels : Nat} (h : seg.Filling pos channels)
include h

theorem lawful (c : Int) : seg.Lawful c := by
  obtain ⟨hpeak, hout, -⟩ := h
  exact ⟨fun _ hpk => absurd (hpeak.symm.trans hpk) (by simp), fun _ => hout⟩

theorem filledBy {us : List Int} (hus : us.length = channels) (hpos : 0 < pos) (hlt : pos < 16) :
    (seg.filledBy us).Filling ((pos + 1) % 16) channels := by
  obtain ⟨hpeak, hout, hlen, hlanes⟩ := h
  refine ⟨hpeak, hout, by simp [Segment.filledBy, hlen, hus], fun lane hlane => ?_⟩
  obtain ⟨k, hk, rfl⟩ := List.mem_iff_getElem.mp hlane
  have hlast : ∀ l ∈ seg.lanes, l.length + 1 = if (pos + 1) % 16 = 0 then 16 else (pos + 1) % 16 := by
    intro l hl
    rw [hlanes l hl, if_neg hpos.ne']
    split <;> omega
  simp only [Segment.filledBy, List.getElem_zipWith, List.length_append, List.length_singleton]
  exact hlast _ (List.getElem_mem _)

theorem stage (hpos : pos = 0) (hchannels : 0 < channels) : seg.stage = .complete := by
  obtain ⟨hpeak, hout, hlen, hlanes⟩ := h
  have hfilled : seg.filled = 16 := by
    unfold Segment.filled
    cases hl : seg.lanes with
    | nil => rw [hl, List.length_nil] at hlen; omega
    | cons lane rest =>
      rw [List.headD_cons, hlanes lane (by rw [hl]; exact List.mem_cons_self), if_pos hpos]
  simp [Segment.stage, hpeak, hout, hfilled, Config.framesPerSegment]

/-- The peak that the entry gets as the next begins bounds its samples (R119, R122). -/
theorem peaked (c : Int) (before : Option Segment) (after : Segment) :
    (seg.peaked c (segmentPeak before seg after)).Formed c := by
  obtain ⟨-, hout, -⟩ := h
  refine ⟨⟨fun pk hpk => ?_, fun _ => hout⟩, rfl⟩
  cases hpk
  exact ⟨rfl, fun lane hlane u hu => natAbs_le_segmentPeak after hlane hu, fun out ho => by cases hout.symm.trans ho⟩

end Segment.Filling

namespace Segment.Formed

variable {seg : Segment} {c : Int} (h : seg.Formed c)
include h

theorem required_nonneg (hc : 0 ≤ c) : 0 ≤ seg.required.getD 1048576 := by
  obtain ⟨⟨hlaw, -⟩, hpeak⟩ := h
  obtain ⟨pk, hpk⟩ := Option.isSome_iff_exists.mp hpeak
  obtain ⟨hreq, -⟩ := hlaw pk hpk
  rw [hreq]
  exact requiredGain_nonneg hc pk

/-- Output begins lawfully with ramp start and gain up to the required gain (R126, R127). -/
theorem started {out : SegmentOutput} (hstart : 0 ≤ out.rampStart) (hstartLe : out.rampStart ≤ seg.required.getD 1048576)
    (hgain : 0 ≤ out.gain) (hgainLe : out.gain ≤ seg.required.getD 1048576) :
    ({ seg with output := some out } : Segment).Formed c := by
  obtain ⟨⟨hlaw, -⟩, hpeak⟩ := h
  refine ⟨⟨fun pk hpk => ?_, fun hnone => by rw [show seg.peak = none from hnone] at hpeak; cases hpeak⟩, hpeak⟩
  obtain ⟨hreq, hbound, -⟩ := hlaw pk hpk
  rw [hreq] at hstartLe hgainLe
  refine ⟨hreq, hbound, fun _ ho => ?_⟩
  cases ho
  exact ⟨hstart, hstartLe, hgain, hgainLe⟩

end Segment.Formed

/-- The limited samples of a lawful entry in OUTPUT (R128). -/
theorem Segment.Lawful.limited_natAbs_le {seg : Segment} {c : Int} (h : seg.Lawful c) (hc : 0 ≤ c) {out : SegmentOutput}
    (ho : seg.output = some out) {i : Nat} (hi : i < 16) :
    ∀ v ∈ seg.lanes.map fun lane => rheDiv (lane.getD i 0 * limiterGain out i) 1048576, v.natAbs ≤ c.toNat := by
  obtain ⟨hlaw, hnone⟩ := h
  intro v hv
  obtain ⟨lane, hlane, rfl⟩ := List.mem_map.mp hv
  cases hpk : seg.peak with
  | none => cases (hnone hpk).symm.trans ho
  | some pk =>
    obtain ⟨-, hbound, hout⟩ := hlaw pk hpk
    obtain ⟨hstart, hstartLe, hgain, hgainLe⟩ := hout out ho
    obtain ⟨hnonneg, hle⟩ := limiterGain_le out hi hstart hstartLe hgain hgainLe
    refine Machine.limited_natAbs_le hc pk ?_ hnonneg hle
    rcases lt_or_ge i lane.length with hlen | hlen
    · rw [List.getD_eq_getElem _ _ hlen]
      exact hbound lane hlane _ (List.getElem_mem hlen)
    · rw [List.getD_eq_default _ _ hlen]
      exact Nat.zero_le _

/-! ### The law of a queue by its newest entry -/

section
variable {l : Limiter} {c : Int} {pos channels : Nat}

theorem Limiter.lawful_of_empty (hq : l.queue = []) (hg : 0 ≤ l.lastGain) : l.Lawful c pos channels := by
  unfold Limiter.Lawful
  rw [hq]
  simp [hg]

/-- The law reads the queue and the last applied gain alone. -/
theorem Limiter.Lawful.congr {l' : Limiter} (h : l.Lawful c pos channels) (hq : l'.queue = l.queue)
    (hg : l'.lastGain = l.lastGain) : l'.Lawful c pos channels := by
  unfold Limiter.Lawful
  rw [hq, hg]
  exact h

theorem Limiter.lawful_snoc_iff {entries : List Segment} {last : Segment} (hq : l.queue = entries ++ [last]) :
    l.Lawful c pos channels ↔
      0 ≤ l.lastGain ∧ (∀ seg ∈ entries, seg.Formed c) ∧ (∀ seg ∈ entries.tail, seg.output = none) ∧
        (pos = 0 → ∀ seg ∈ entries, seg.output = none) ∧ entries.length < (if pos = 0 then 7 else 8) ∧
        (entries.length = 7 → ∀ oldest, entries.head? = some oldest → oldest.output.isSome = true) ∧
        last.Filling pos channels := by
  have hsegs : (∀ seg ∈ entries, seg.Formed c) ↔
      (∀ seg ∈ entries, seg.Lawful c) ∧ ∀ seg ∈ entries, seg.peak.isSome = true := forall₂_and
  unfold Limiter.Lawful
  rw [hq, hsegs]
  simp only [List.dropLast_concat, List.getLast?_concat, List.length_append, List.length_singleton, Option.some.injEq,
    forall_eq', List.forall_mem_append, List.forall_mem_singleton]
  have htails : (∀ seg ∈ (entries ++ [last]).tail, seg.output = none) ∧ last.output = none ↔
      (∀ seg ∈ entries.tail, seg.output = none) ∧ last.output = none := by
    cases entries with
    | nil => simp
    | cons oldest rest => rw [List.cons_append, List.tail_cons, List.forall_mem_append]; simp
  have hhead : entries.length = 7 → (entries ++ [last]).head? = entries.head? := by
    cases entries <;> simp
  constructor
  · rintro ⟨hg, ⟨hlaw, -, hlast⟩, hpeak, htail, hstart, hlen, hfull, hnewest, hchannels, hlanes⟩
    obtain ⟨htail, hout⟩ := htails.mp ⟨htail, hlast hnewest⟩
    exact ⟨hg, ⟨hlaw, hpeak⟩, htail, fun hpos => (hstart hpos).1, hlen,
      fun h7 => hhead h7 ▸ hfull (by omega), hnewest, hout, hchannels, hlanes⟩
  · rintro ⟨hg, ⟨hlaw, hpeak⟩, htail, hstart, hlen, hfull, hlast⟩
    obtain ⟨hnewest, hout, hchannels, hlanes⟩ := id hlast
    obtain ⟨htail, -⟩ := htails.mpr ⟨htail, hout⟩
    exact ⟨hg, ⟨hlaw, hlast.lawful c⟩, hpeak, htail, fun hpos => ⟨hstart hpos, hout⟩, hlen,
      fun h8 => (hhead (by omega)).symm ▸ hfull (by omega), hnewest, hchannels, hlanes⟩

end

/-! ### A frame (R119) -/

/-- What a frame leaves is a limiter lawful at the next position, with limited samples at the ceiling or below (R127). -/
def LimitedWithin (c : Int) (pos channels : Nat) (limited : Limiter × List Int) : Prop :=
  limited.1.Lawful c pos channels ∧ ∀ v ∈ limited.2, v.natAbs ≤ c.toNat

/-- Silence is at the ceiling or below. -/
theorem limitedWithin_of_silence {l : Limiter} {c : Int} {pos channels : Nat} (h : l.Lawful c pos channels)
    (us : List Int) : LimitedWithin c pos channels (l, us.map fun _ => 0) := by
  refine ⟨h, fun v hv => ?_⟩
  obtain ⟨_, -, rfl⟩ := List.mem_map.mp hv
  exact Nat.zero_le _

theorem foldl_min_within {gs : List Int} (hgs : ∀ g ∈ gs, 0 ≤ g) {bound : Int} (hbound : 0 ≤ bound) :
    0 ≤ gs.foldl min bound ∧ gs.foldl min bound ≤ bound := by
  induction gs generalizing bound with
  | nil => exact ⟨hbound, le_refl _⟩
  | cons g gs ih =>
    obtain ⟨hg, hgs⟩ := List.forall_mem_cons.mp hgs
    obtain ⟨hlo, hhi⟩ := ih hgs (le_min hbound hg)
    exact ⟨hlo, hhi.trans (min_le_left _ _)⟩

/-- The window's gain is at most the oldest entry's required gain (R126, R127). -/
theorem windowGain_within {lastGain release : Int} {oldest : Segment} {rest : List Segment} (hg : 0 ≤ lastGain + release)
    (hreq : ∀ seg ∈ oldest :: rest, 0 ≤ seg.required.getD 1048576) :
    0 ≤ windowGain lastGain release (oldest :: rest) ∧
      windowGain lastGain release (oldest :: rest) ≤ oldest.required.getD 1048576 := by
  obtain ⟨holdest, hrest⟩ := List.forall_mem_cons.mp hreq
  rw [windowGain_cons]
  have hwindow : ∀ g ∈ (rest.take 6).map fun seg => seg.required.getD 1048576, 0 ≤ g := by
    intro g hmem
    obtain ⟨seg, hseg, rfl⟩ := List.mem_map.mp hmem
    exact hrest seg (List.mem_of_mem_take hseg)
  obtain ⟨hlo, hhi⟩ := foldl_min_within hwindow (le_min holdest hg)
  exact ⟨hlo, hhi.trans (min_le_left _ _)⟩

namespace Limiter.Lawful

section
variable {l : Limiter} {cp release : Int} {us : List Int} (h : l.Lawful (ceilingAmplitude cp) 0 us.length)
include h

/-- The queue as a first frame enters it: every older entry has its peak, and none is in OUTPUT (R119, steps 1 and 2). -/
theorem segmentBegun (hus : 0 < us.length) :
    l.queue = [] ∨ ∃ oldest rest, (l.segmentBegun cp us).queue = oldest :: rest ++ [Segment.begun us] ∧
      (∀ seg ∈ oldest :: rest, seg.Formed (ceilingAmplitude cp)) ∧ (∀ seg ∈ oldest :: rest, seg.output = none) ∧
      (oldest :: rest).length ≤ 7 := by
  rcases List.eq_nil_or_concat' l.queue with hq | ⟨entries, last, hq⟩
  · exact .inl hq
  obtain ⟨-, hformed, -, hout, hlen, -, hlast⟩ := (Limiter.lawful_snoc_iff hq).mp h
  obtain ⟨-, hlastOut, -⟩ := id hlast
  have hbegun := Limiter.segmentBegun_queue cp us hq (hlast.stage rfl hus)
  obtain ⟨waiting, hw⟩ : ∃ waiting, last.peaked (ceilingAmplitude cp)
    (segmentPeak entries.getLast? last (Segment.begun us)) = waiting := ⟨_, rfl⟩
  have hwaiting : waiting.Formed (ceilingAmplitude cp) := hw ▸ hlast.peaked _ _ _
  have hwaitingOut : waiting.output = none := hw ▸ hlastOut
  obtain ⟨oldest, rest, hcons⟩ := List.exists_cons_of_ne_nil (List.concat_ne_nil waiting entries)
  refine .inr ⟨oldest, rest, ?_, ?_, ?_, ?_⟩ <;> rw [← hcons]
  · rw [hbegun, hw, List.append_assoc]
    rfl
  · exact List.forall_mem_append.mpr ⟨hformed, List.forall_mem_singleton.mpr hwaiting⟩
  · exact List.forall_mem_append.mpr ⟨hout rfl, List.forall_mem_singleton.mpr hwaitingOut⟩
  · rw [List.length_append]
    exact hlen

/-- The first frame of a segment (R119, steps 1 to 4). -/
theorem limit_first (hc : 0 ≤ ceilingAmplitude cp) (hr : 0 ≤ release) (hus : 0 < us.length) :
    LimitedWithin (ceilingAmplitude cp) 1 us.length (l.limit 0 cp release us) := by
  have hnewest := Segment.begun_filling us
  obtain ⟨hg, -⟩ := id h
  rcases h.segmentBegun hus with hq | ⟨oldest, rest, hbegun, hformed, hout, hlen⟩
  · rw [Limiter.limit_empty cp release us hq]
    refine limitedWithin_of_silence ((Limiter.lawful_snoc_iff (List.nil_append _).symm).mpr ?_) us
    exact ⟨hg, by simp, by simp, by simp, by simp, by simp, hnewest⟩
  obtain ⟨holdest, hrest⟩ := List.forall_mem_cons.mp hformed
  obtain ⟨holdestOut, hrestOut⟩ := List.forall_mem_cons.mp hout
  have hlength : (oldest :: rest ++ [Segment.begun us]).length = (oldest :: rest).length + 1 := List.length_append
  have hlt : (oldest :: rest).length < if (1 : Nat) = 0 then 7 else 8 := Nat.lt_succ_of_le hlen
  rcases Nat.lt_or_ge (oldest :: rest).length 7 with hshort | hfull
  · rw [Limiter.limit_first_of_short cp release us (by rw [hbegun, hlength]; omega)
      (by rw [hbegun]; simpa using holdestOut)]
    exact limitedWithin_of_silence ((Limiter.lawful_snoc_iff hbegun).mpr
      ⟨hg, hformed, hrestOut, fun _ => hout, hlt, fun h7 => absurd h7 hshort.ne, hnewest⟩) us
  · have hreq : ∀ seg ∈ oldest :: (rest ++ [Segment.begun us]), 0 ≤ seg.required.getD 1048576 := by
      rw [← List.cons_append, List.forall_mem_append]
      exact ⟨fun seg hseg => (hformed seg hseg).required_nonneg hc, by simp [Segment.begun]⟩
    have holdestReq := holdest.required_nonneg hc
    obtain ⟨hgain, hgainLe⟩ := windowGain_within (lastGain := l.lastGain) (release := release) (by omega) hreq
    obtain ⟨out, hstartedOut⟩ : ∃ out : SegmentOutput, out =
      { rampStart := min l.lastGain (oldest.required.getD 1048576)
        gain := windowGain l.lastGain release (oldest :: (rest ++ [Segment.begun us])) } := ⟨_, rfl⟩
    have hstarted : ({ oldest with output := some out } : Segment).Formed (ceilingAmplitude cp) := by
      subst hstartedOut
      exact holdest.started (le_min hg holdestReq) (min_le_right _ _) hgain hgainLe
    obtain ⟨hstartedLaw, -⟩ := id hstarted
    rw [Limiter.limit_first_of_full cp release us hbegun (hlength.trans (by omega)) hstartedOut]
    refine ⟨(Limiter.lawful_snoc_iff (entries := { oldest with output := some out } :: rest) rfl).mpr
      ⟨?_, List.forall_mem_cons.mpr ⟨hstarted, hrest⟩, hrestOut, by simp, hlt, by simp, hnewest⟩,
      hstartedLaw.limited_natAbs_le hc rfl (by decide)⟩
    rw [hstartedOut]
    exact hgain

end

/-- A later frame of a segment (R119, steps 1, 4 and 5). -/
theorem limit_later {l : Limiter} {cp : Int} {us : List Int} {pos : Nat}
    (h : l.Lawful (ceilingAmplitude cp) pos us.length) (hc : 0 ≤ ceilingAmplitude cp) (hpos : 0 < pos) (hlt : pos < 16)
    (release : Int) :
    LimitedWithin (ceilingAmplitude cp) ((pos + 1) % 16) us.length (l.limit pos cp release us) := by
  obtain ⟨hg, -⟩ := id h
  rcases List.eq_nil_or_concat' l.queue with hq | ⟨entries, last, hq⟩
  · rw [Limiter.limit_later _ _ _ hpos, hq, enqueue_nil, Limiter.output_of_none _ _ (by simp), ← List.map_const']
    refine limitedWithin_of_silence ?_ us
    exact Limiter.lawful_of_empty rfl hg
  obtain ⟨-, hformed, htail, -, hlen, hfull, hlast⟩ := (Limiter.lawful_snoc_iff hq).mp h
  have hfilled := hlast.filledBy rfl hpos hlt
  obtain ⟨-, hfilledOut, -⟩ := id hfilled
  rw [if_neg hpos.ne'] at hlen
  cases entries with
  | nil =>
    rw [Limiter.limit_later_of_none cp release us hpos hq rfl hfilledOut]
    refine limitedWithin_of_silence ((Limiter.lawful_snoc_iff (List.nil_append _).symm).mpr ?_) us
    exact ⟨hg, by simp, by simp, by simp, by split <;> decide, by simp, hfilled⟩
  | cons oldest rest =>
    obtain ⟨⟨holdest, -⟩, hrest⟩ := List.forall_mem_cons.mp hformed
    cases ho : oldest.output with
    | none =>
      rw [Limiter.limit_later_of_none cp release us hpos hq rfl ho]
      refine limitedWithin_of_silence ((Limiter.lawful_snoc_iff (entries := oldest :: rest) rfl).mpr ?_) us
      have hshort : (oldest :: rest).length ≠ 7 := fun h7 => by simpa [ho] using hfull h7 oldest rfl
      exact ⟨hg, hformed, htail, fun _ => List.forall_mem_cons.mpr ⟨ho, htail⟩, by split <;> omega, hfull, hfilled⟩
    | some out =>
      rw [Limiter.limit_later_of_some cp release us hpos hq rfl ho]
      refine ⟨?_, holdest.limited_natAbs_le hc ho hlt⟩
      rcases Nat.lt_or_ge pos 15 with hnot | hend
      · have hnext : (pos + 1) % 16 ≠ 0 := by omega
        refine (Limiter.lawful_snoc_iff (entries := oldest :: rest) (if_neg hnot.ne)).mpr ?_
        exact ⟨hg, hformed, htail, fun h0 => absurd h0 hnext, by rwa [if_neg hnext], hfull, hfilled⟩
      · obtain rfl : pos = 15 := by omega
        refine (Limiter.lawful_snoc_iff (entries := rest) rfl).mpr ?_
        exact ⟨hg, hrest, fun seg hseg => htail seg (List.mem_of_mem_tail hseg), fun _ => htail, Nat.lt_of_succ_lt_succ hlen,
          fun h7 => absurd hlen (by simp [h7]), hfilled⟩

/-- Any frame of a segment. -/
theorem limit {l : Limiter} {cp release : Int} {us : List Int} {pos : Nat}
    (h : l.Lawful (ceilingAmplitude cp) pos us.length) (hc : 0 ≤ ceilingAmplitude cp) (hr : 0 ≤ release)
    (hus : 0 < us.length) (hlt : pos < 16) :
    LimitedWithin (ceilingAmplitude cp) ((pos + 1) % 16) us.length (l.limit pos cp release us) := by
  rcases Nat.eq_zero_or_pos pos with rfl | hpos
  · exact h.limit_first hc hr hus
  · exact h.limit_later hc hpos hlt release

end Limiter.Lawful

end Sys2Proof.Machine
end

section
/-! PROOF. An output frame keeps the limiters lawful and sends no sample above its ceiling (R127 to R132): O15. -/

namespace Sys2Proof.Machine

/-! ### Profiles in force (R93, R123) -/

theorem ceilingAmplitude_nonneg {cp : Int} (hcp : cp ≤ 0) : 0 ≤ ceilingAmplitude cp := by
  rw [ceilingAmplitude_eq_round hcp, round_eq, Int.floor_nonneg]
  linarith [exactPower_pos 23 cp]

theorem Profile.Valid.peakCeiling_le {p : Profile} (h : p.Valid) : p.peakCeiling ≤ 0 := by
  unfold Profile.Valid at h
  omega

theorem Profile.Valid.release_nonneg {p : Profile} (h : p.Valid) : 0 ≤ p.release := by
  unfold Profile.Valid at h
  omega

/-! ### The limiter law in two parts -/

/-- What `Service.LimiterLaw` says whatever the frame: a map unless VACANT, valid profiles, and a fade within its frames. -/
def Service.Equipped (sv : Service) : Prop :=
  (sv.lifecycle ≠ .vacant → sv.map ≠ []) ∧ sv.profile.Valid ∧ (∀ p, sv.pendingProfile = some p → p.Valid) ∧
    sv.lim.fade.Lawful

/-- What it says of the look-ahead queue before frame `frame` of a subblock. -/
def Service.QueueLaw (sv : Service) (frame : Nat) : Prop :=
  sv.lifecycle.running = true →
    if sv.entryMarker then sv.lim.queue = [] ∧ 0 ≤ sv.lim.lastGain
    else sv.lim.Lawful (ceilingAmplitude sv.profile.peakCeiling) (frame % 16) sv.map.length

theorem Service.limiterLaw_iff {sv : Service} {frame : Nat} :
    sv.LimiterLaw frame ↔ sv.Equipped ∧ sv.QueueLaw frame := by
  simp only [Service.LimiterLaw, Service.Equipped, Service.QueueLaw, and_assoc]

theorem Service.LimiterLaw.equipped {sv : Service} {frame : Nat} (h : sv.LimiterLaw frame) : sv.Equipped :=
  (Service.limiterLaw_iff.mp h).1

theorem Service.LimiterLaw.queueLaw {sv : Service} {frame : Nat} (h : sv.LimiterLaw frame) : sv.QueueLaw frame :=
  (Service.limiterLaw_iff.mp h).2

/-! ### Fades and saturation (R130 to R132) -/

@[simp] theorem FadeState.lawful_none : FadeState.none.Lawful := by
  simp [FadeState.Lawful]

@[simp] theorem FadeState.lawful_silent : FadeState.silent.Lawful := by
  simp [FadeState.Lawful]

@[simp] theorem FadeState.lawful_fadeIn (k : Nat) : (FadeState.fadeIn k).Lawful ↔ k < 480 := by
  simp [FadeState.Lawful, Config.fadeFrames]

@[simp] theorem FadeState.lawful_fadeOut (k : Nat) : (FadeState.fadeOut k).Lawful ↔ k < 480 := by
  simp [FadeState.Lawful, Config.fadeFrames]

theorem FadeState.Lawful.next {fade : FadeState} (h : fade.Lawful) : fade.next.Lawful := by
  cases fade with
  | none => exact FadeState.lawful_none
  | silent => exact FadeState.lawful_silent
  | fadeIn k | fadeOut k =>
    rw [FadeState.next_eq]
    dsimp only
    split
    · simp only [FadeState.lawful_fadeIn, FadeState.lawful_fadeOut]
      omega
    · simp

theorem Limiter.entering_queue (l : Limiter) (i : Nat) :
    (l.entering i).queue = l.queue ∧ (l.entering i).lastGain = l.lastGain := by
  unfold Limiter.entering
  split
  · rw [Limiter.fadeTakenUp_eq]
    exact ⟨rfl, rfl⟩
  · exact ⟨rfl, rfl⟩

theorem Limiter.entering_fade_lawful {l : Limiter} (h : l.fade.Lawful) (i : Nat) : (l.entering i).fade.Lawful := by
  unfold Limiter.entering
  split
  · rw [Limiter.fadeTakenUp_fade]
    split
    · simp
    · split <;> simp
    · exact h
  · exact h

/-- Saturation makes no sample larger, and its result fits into 24 bits (R132). -/
theorem saturate_within (v : Int) :
    (saturate v).natAbs ≤ v.natAbs ∧ -8388608 ≤ saturate v ∧ saturate v ≤ 8388607 := by
  rw [saturate_eq]
  omega

/-- Fade and saturation keep limited samples at the ceiling or below (R131, R132). -/
theorem Limiter.finish_natAbs_le {l : Limiter} (hfade : l.fade.Lawful) {os : List Int} {c : Nat}
    (hos : ∀ o ∈ os, o.natAbs ≤ c) :
    ∀ v ∈ (l.finish os).2, v.natAbs ≤ c ∧ -8388608 ≤ v ∧ v ≤ 8388607 := by
  intro v hv
  obtain ⟨f, hf, rfl⟩ := List.mem_map.mp hv
  obtain ⟨o, ho, rfl⟩ := List.mem_map.mp hf
  obtain ⟨hle, hlo, hhi⟩ := saturate_within (faded l.fade o)
  exact ⟨(hle.trans (faded_natAbs_le o hfade)).trans (hos o ho), hlo, hhi⟩

/-- A sample that fits is sent as it is. -/
theorem toInt_ofInt_of_fits {v : Int} (hlo : -8388608 ≤ v) (hhi : v ≤ 8388607) : (BitVec.ofInt 24 v).toInt = v := by
  rw [BitVec.toInt_ofInt]
  exact Int.bmod_eq_of_le (by norm_num; omega) (by norm_num; omega)

/-! ### A frame of a service -/

section
variable (sv : Service) (i : Nat) (a b : Slots)

theorem Service.gainedFeed_length : (sv.gainedFeed i a b).length = sv.map.length := by
  have hraw : ∀ feed, (sv.rawFeed a b feed).length = sv.map.length := fun feed => by
    rw [Service.rawFeed_eq, List.length_map]
  rw [Service.gainedFeed, List.length_map, Service.selected]
  cases sv.feeds.crossfade with
  | none => exact hraw _
  | some cf => simp [hraw]

end

namespace Service.Equipped

variable {sv : Service} (h : sv.Equipped) (i : Nat) (a b : Slots)
include h

theorem ceiling_nonneg : 0 ≤ ceilingAmplitude sv.profile.peakCeiling := by
  obtain ⟨-, hp, -⟩ := h
  exact ceilingAmplitude_nonneg hp.peakCeiling_le

theorem limitedFeed_fade : (sv.limitedFeed i a b).1.fade.Lawful := by
  obtain ⟨-, -, -, hfade⟩ := h
  obtain ⟨he, -⟩ := sv.limitedFeed_fields i a b
  rw [he]
  exact Limiter.entering_fade_lawful hfade i

theorem atFrame : (sv.atFrame i a b).1.Equipped := by
  have hl := h.limitedFeed_fade i a b
  obtain ⟨hmap, hp, hpending, -⟩ := id h
  unfold Service.atFrame
  split
  · exact ⟨hmap, hp, hpending, hl.next⟩
  · exact h

end Service.Equipped

/-- The limiter of a service in its fast path (R119, R127). -/
theorem Service.limitedFeed_within {sv : Service} {i : Nat} (h : sv.LimiterLaw i) (hrun : sv.runsFastPath = true)
    (a b : Slots) :
    LimitedWithin (ceilingAmplitude sv.profile.peakCeiling) ((i + 1) % 16) sv.map.length (sv.limitedFeed i a b) := by
  obtain ⟨hequipped, hqueue⟩ := Service.limiterLaw_iff.mp h
  obtain ⟨hmap, hp, -⟩ := id hequipped
  obtain ⟨hr, he⟩ := Service.runsFastPath_iff.mp hrun
  obtain ⟨hq, hg⟩ := sv.lim.entering_queue i
  have hlawful := hqueue hr
  rw [he, if_neg Bool.false_ne_true] at hlawful
  have hentered := hlawful.congr hq hg
  have hlen := sv.gainedFeed_length i a b
  have hchannels := List.length_pos_iff.mpr (hmap (Lifecycle.ne_vacant_of_running hr))
  rw [← hlen] at hentered hchannels ⊢
  rw [show (i + 1) % 16 = (i % 16 + 1) % 16 by omega]
  exact hentered.limit hequipped.ceiling_nonneg hp.release_nonneg hchannels (Nat.mod_lt _ (by decide))

/-- A frame of a lawful service leaves it lawful for the next. -/
theorem Service.LimiterLaw.atFrame {sv : Service} {i : Nat} (h : sv.LimiterLaw i) (a b : Slots) :
    (sv.atFrame i a b).1.LimiterLaw (i + 1) := by
  obtain ⟨hequipped, hqueue⟩ := Service.limiterLaw_iff.mp h
  refine Service.limiterLaw_iff.mpr ⟨hequipped.atFrame i a b, ?_⟩
  cases hrun : sv.runsFastPath with
  | true =>
    obtain ⟨-, he⟩ := Service.runsFastPath_iff.mp hrun
    obtain ⟨hlawful, -⟩ := Service.limitedFeed_within h hrun a b
    intro _
    simp only [Service.atFrame_entryMarker, he, Service.atFrame_profile, Service.atFrame_map]
    rw [Service.atFrame, if_pos hrun]
    exact hlawful.congr rfl rfl
  | false =>
    rw [Service.atFrame, if_neg (by simp [hrun])]
    intro hr
    have hentry : sv.entryMarker = true := by simpa [Service.runsFastPath, hr] using hrun
    have := hqueue hr
    rwa [hentry] at this ⊢

/-- Its samples are at the ceiling or below, and fit into 24 bits (R132). -/
theorem Service.LimiterLaw.fastPath_natAbs_le {sv : Service} {i : Nat} (h : sv.LimiterLaw i)
    (hrun : sv.runsFastPath = true) (a b : Slots) :
    ∀ v ∈ (sv.fastPath i a b).2,
      v.natAbs ≤ (ceilingAmplitude sv.profile.peakCeiling).toNat ∧ -8388608 ≤ v ∧ v ≤ 8388607 := by
  obtain ⟨-, hle⟩ := Service.limitedFeed_within h hrun a b
  exact Limiter.finish_natAbs_le (h.equipped.limitedFeed_fade i a b) hle

theorem outputFrame_limiterLaw {s : State} (ho : s.operating = true) (hg : s.clock.start = .given) (hf : s.frame < 4800)
    (h : ∀ n, (s.service n).LimiterLaw s.frame) (n : ServiceIndex) :
    ((outputFrame s).service n).LimiterLaw (outputFrame s).frame := by
  have hframe : (outputFrame s).frame = s.frame + 1 := by rw [outputFrame_of_given ho hg hf]
  rw [State.service_of_services (outputFrame_services ho hg hf), hframe]
  exact (h n).atFrame _ _

/-- Settles O15: each sent sample is one of its owner's fast path, or 0. -/
theorem outputPeaksWithinCeiling : Obligations.OutputPeaksWithinCeiling := by
  intro s ho hg hf h
  obtain ⟨t, f, ht, hline, -, -, -, -, hslots⟩ := outputFrameSent s ho hg hf
  obtain rfl : outputFrame s = t := by
    cases ht
    rfl
  refine ⟨_, f, ht, hline, outputFrame_limiterLaw ho hg hf h, fun slot o howner hrun => ?_⟩
  rw [hslots slot, howner]
  dsimp only
  split
  · next hruns =>
    have hle := (h o.service).fastPath_natAbs_le (Service.runsFastPath_iff.mpr hruns) s.portA.read.2.slots s.portB.read.2.slots
    rcases lt_or_ge o.channel.val ((s.service o.service).fastPath s.frame s.portA.read.2.slots s.portB.read.2.slots).2.length
      with hlen | hlen
    · rw [List.getD_eq_getElem _ _ hlen]
      obtain ⟨hpeak, hlo, hhi⟩ := hle _ (List.getElem_mem hlen)
      rwa [toInt_ofInt_of_fits hlo hhi]
    · rw [List.getD_eq_default _ _ hlen]
      exact Nat.zero_le _
  · exact Nat.zero_le _

end Sys2Proof.Machine
end

section
/-! PROOF. The look-ahead queue at a close (R45, R101, R120, R125). -/

namespace Sys2Proof.Machine

/-! ### A new peak ceiling (R125) -/

section
variable {seg : Segment} (c : Int)

theorem Segment.relimited_of_peak (hout : seg.output = none) {pk : Nat} (hpk : seg.peak = some pk) :
    seg.relimited c = { seg with required := some (requiredGain c pk) } := by
  simp [Segment.relimited, Segment.stage, hout, hpk]

theorem Segment.relimited_of_no_peak (hpk : seg.peak = none) : seg.relimited c = seg := by
  simp [Segment.relimited, hpk]

/-- A WAITING entry is lawful under a new ceiling once its required gain is formed again. -/
theorem Segment.Formed.relimited {old : Int} (h : seg.Formed old) (hout : seg.output = none) :
    (seg.relimited c).Formed c ∧ (seg.relimited c).output = none := by
  obtain ⟨⟨hlaw, -⟩, hpeak⟩ := h
  obtain ⟨pk, hpk⟩ := Option.isSome_iff_exists.mp hpeak
  obtain ⟨-, hbound, -⟩ := hlaw pk hpk
  rw [Segment.relimited_of_peak c hout hpk]
  refine ⟨⟨⟨fun pk' hpk' => ?_, fun _ => hout⟩, hpeak⟩, hout⟩
  cases hpk.symm.trans hpk'
  exact ⟨rfl, hbound, fun out ho => by cases hout.symm.trans ho⟩

/-- Between segments a whole queue is lawful under the new ceiling. -/
theorem Limiter.Lawful.relimited {l : Limiter} {old : Int} {channels : Nat} (h : l.Lawful old 0 channels) :
    ({ l with queue := l.queue.map fun seg => seg.relimited c } : Limiter).Lawful c 0 channels := by
  rcases List.eq_nil_or_concat' l.queue with hq | ⟨entries, last, hq⟩
  · obtain ⟨hg, -⟩ := h
    refine Limiter.lawful_of_empty ?_ hg
    rw [hq]
    rfl
  obtain ⟨hg, hformed, -, hout, hlen, -, hlast⟩ := (Limiter.lawful_snoc_iff hq).mp h
  obtain ⟨hpeak, -⟩ := id hlast
  have hnew : ∀ seg ∈ entries.map fun seg => seg.relimited c, seg.Formed c ∧ seg.output = none :=
    List.forall_mem_map.mpr fun seg hseg => (hformed seg hseg).relimited c (hout rfl seg hseg)
  obtain ⟨hformed', hout'⟩ := forall₂_and.mp hnew
  refine (Limiter.lawful_snoc_iff (entries := entries.map fun seg => seg.relimited c) (last := last) ?_).mpr
    ⟨hg, hformed', fun seg hseg => hout' seg (List.mem_of_mem_tail hseg), fun _ => hout',
      by simpa using hlen, ?_, hlast⟩
  · simp [hq, Segment.relimited_of_no_peak c hpeak]
  · intro h7
    rw [List.length_map] at h7
    exact absurd hlen (by simp [h7])

end

/-! ### The queue through the stages of a close -/

section
variable (sv : Service) (a b : Bool) (w : Word32)

theorem Service.profileStage_of_none {sv : Service} (hp : sv.pendingProfile = none) : sv.profileStage = sv := by
  rw [Service.profileStage, hp]

theorem Service.profileStage_queue {sv : Service} {p : Profile} (hp : sv.pendingProfile = some p) :
    sv.profileStage.lim.queue = sv.lim.queue.map fun seg => seg.relimited (ceilingAmplitude p.peakCeiling) := by
  rw [Service.profileStage, hp]

theorem Service.profileStage_queue_nil {sv : Service} (hq : sv.lim.queue = []) : sv.profileStage.lim.queue = [] := by
  cases hp : sv.pendingProfile with
  | none => rwa [Service.profileStage_of_none hp]
  | some p =>
    rw [Service.profileStage_queue hp, hq]
    rfl

theorem Service.decided_queue :
    (sv.decided a b w).lim.queue = sv.profileStage.lim.queue ∧ (sv.decided a b w).lim.lastGain = sv.lim.lastGain := by
  unfold Service.decided Service.monitored
  dsimp only
  split <;> simp [Service.limiterStage]

/-- The lifecycle stage clears the queue of a service that resumes (R45, R120), and no other. -/
theorem Service.lifecycleStage_queue (l : Lifecycle) (measuring : Bool) (d : FeedDecision) :
    (∃ taken cause, d = .resume taken cause) ∧ (sv.lifecycleStage l measuring d).lim.queue = [] ∧
        (sv.lifecycleStage l measuring d).lim.lastGain = 1048576 ∨
      (sv.lifecycleStage l measuring d).lim.queue = sv.lim.queue ∧
        (sv.lifecycleStage l measuring d).lim.lastGain = sv.lim.lastGain := by
  unfold Service.lifecycleStage
  dsimp only
  split
  · rw [Service.haltStage_lim]
    exact .inr ⟨rfl, rfl⟩
  · exact .inr ⟨rfl, rfl⟩
  · exact .inl ⟨⟨_, _, rfl⟩, rfl, rfl⟩
  · exact .inr ⟨rfl, rfl⟩

theorem Service.close_queue :
    (∃ taken cause, sv.decision a b w = .resume taken cause) ∧ (sv.close a b w).service.lim.queue = [] ∧
        (sv.close a b w).service.lim.lastGain = 1048576 ∨
      (sv.close a b w).service.lim.queue = sv.profileStage.lim.queue ∧
        (sv.close a b w).service.lim.lastGain = sv.lim.lastGain := by
  obtain ⟨hq, hg⟩ := sv.decided_queue a b w
  rw [Service.close_service, ← hq, ← hg]
  exact (sv.decided a b w).lifecycleStage_queue _ _ _

/-- Only a DROPPED service resumes. -/
theorem Service.decision_ne_resume (h : sv.lifecycle.measuring = true ∨ sv.lifecycle = .halting) (taken : Feed)
    (cause : FeedCause) : sv.decision a b w ≠ .resume taken cause := by
  rcases h with hm | hl
  · rcases sv.decision_of_measuring a b w hm with (hd | ⟨_, _, hd⟩) | ⟨_, _, hd⟩ <;> simp [hd]
  · simp [sv.decision_of_halting a b w hl]

end

/-- The profile stage leaves the queue lawful under the ceiling that it puts in force (R101, R125). -/
theorem Limiter.Lawful.profileStage {sv : Service} {channels : Nat}
    (h : sv.lim.Lawful (ceilingAmplitude sv.profile.peakCeiling) 0 channels) :
    sv.profileStage.lim.Lawful (ceilingAmplitude (sv.pendingProfile.getD sv.profile).peakCeiling) 0 channels := by
  cases hp : sv.pendingProfile with
  | none => rwa [Service.profileStage_of_none hp]
  | some p => exact (h.relimited _).congr (Service.profileStage_queue hp) sv.profileStage_lim_lastGain

end Sys2Proof.Machine
end

section
/-! PROOF. The limiter's reporting at a close, the order of a close's raises, and a new ceiling on the WAITING segments (R125,
R134 to R136, R178): O22. -/

namespace Sys2Proof.Machine

theorem deviationNotice_congr {x y : Service} (before : Bool) (hi : x.integ = y.integ) (hp : x.profile = y.profile) :
    deviationNotice before x = deviationNotice before y := by
  rw [deviationNotice, hi, hp, deviationNotice]

theorem limiterNotices_congr {x y : Service} (hp : x.profile = y.profile) (hmin : x.lim.lastSubMin = y.lim.lastSubMin)
    (hclips : x.lim.lastClips = y.lim.lastClips) (htotal : x.lim.totalClips = y.lim.totalClips) :
    limiterNotices x = limiterNotices y := by
  rw [limiterNotices, Limiter.reduction, hp, hmin, hclips, htotal, limiterNotices, Limiter.reduction]

/-- Raises of one kind that are of different kinds are one at most. -/
theorem pairwise_of_one_kind {ds : List Detail} {k : NoticeKind} (hk : ∀ d ∈ ds, d.kind = k)
    (hne : ds.Pairwise fun d d' => d.kind ≠ d'.kind) (r : Detail → Detail → Prop) : ds.Pairwise r :=
  hne.imp_of_mem fun ha hb hab => absurd ((hk _ ha).trans (hk _ hb).symm) hab

section
variable (sv : Service) (a b : Bool) (w : Word32)

/-- What a close leaves of the limiter's reporting values (R134). -/
theorem Service.close_reports :
    (sv.close a b w).service.lim.lastSubMin = sv.lim.subMin ∧ (sv.close a b w).service.lim.lastClips = sv.lim.clips ∧
      (sv.close a b w).service.lim.subMin = 1048576 ∧ (sv.close a b w).service.lim.clips = 0 ∧
      (sv.close a b w).service.lim.totalClips = sv.lim.totalClips := by
  rw [Service.close_lim]
  exact ⟨rfl, rfl, rfl, rfl, rfl⟩

/-- The raises of a close, read off the record that it leaves (R47, R84, R135, R136, R155). -/
theorem Service.close_notices :
    (sv.close a b w).notices =
      stateNotice sv.lifecycle (sv.close a b w).service ++ feedNotice sv.feeds.inUse (sv.decision a b w) ++
        deviationNotice sv.integ.deviation (sv.close a b w).service ++ limiterNotices (sv.close a b w).service := by
  obtain ⟨hmin, hclips, -, -, htotal⟩ := sv.close_reports a b w
  refine congrArg₂ (· ++ ·) (congrArg₂ (· ++ ·) rfl (deviationNotice_congr _ ?_ ?_))
    (limiterNotices_congr ?_ ?_ ?_ ?_)
  · exact (sv.close_integ a b w).symm
  · simp
  · simp
  · rw [hmin]
    simp [Service.limiterStage]
  · rw [hclips]
    simp [Service.limiterStage]
  · rw [htotal]
    simp [Service.limiterStage]

/-- The LIMIT and CLIP raises of a close (R135, R136). -/
theorem Service.close_limiterRaises :
    limiterNotices (sv.close a b w).service =
      (if (sv.close a b w).service.profile.heavyLimit < reductionOf sv.lim.subMin then [.limit (reductionOf sv.lim.subMin)]
        else []) ++
      (if 0 < sv.lim.clips then [.clip sv.lim.clips sv.lim.totalClips] else []) := by
  obtain ⟨hmin, hclips, -, -, htotal⟩ := sv.close_reports a b w
  rw [limiterNotices, Limiter.reduction, hmin, hclips, htotal]

/-- The raises of one close come in the kind order (R178). -/
theorem Service.close_notices_ordered :
    (sv.close a b w).notices.Pairwise fun d d' => d.kind.code < d'.kind.code := by
  rw [Service.close_notices, List.pairwise_append, List.pairwise_append, List.pairwise_append]
  refine ⟨⟨⟨pairwise_of_one_kind (fun _ => kind_of_mem_stateNotice) (stateNotice_kinds _ _) _,
    pairwise_of_one_kind (fun _ => kind_of_mem_feedNotice) (feedNotice_kinds _ _) _, ?feed⟩,
    pairwise_of_one_kind (fun _ => kind_of_mem_deviationNotice) (deviationNotice_kinds _ _) _, ?deviation⟩, ?last, ?limiter⟩
  case feed =>
    intro d hd d' hd'
    rw [kind_of_mem_stateNotice hd, kind_of_mem_feedNotice hd']
    decide
  case deviation =>
    intro d hd d' hd'
    rw [kind_of_mem_deviationNotice hd']
    rcases List.mem_append.mp hd with hd | hd
    · rw [kind_of_mem_stateNotice hd]
      decide
    · rw [kind_of_mem_feedNotice hd]
      decide
  case last =>
    unfold limiterNotices
    split <;> split <;> simp [Detail.kind, NoticeKind.code]
  case limiter =>
    intro d hd d' hd'
    have hlate : 6 ≤ d'.kind.code := by
      rcases kind_of_mem_limiterNotices hd' with h | h <;> rw [h] <;> decide
    refine lt_of_lt_of_le ?_ hlate
    rcases List.mem_append.mp hd with hd | hd
    · rcases List.mem_append.mp hd with hd | hd
      · rw [kind_of_mem_stateNotice hd]
        decide
      · rw [kind_of_mem_feedNotice hd]
        decide
    · rw [kind_of_mem_deviationNotice hd]
      decide

/-- Of the kinds of a close's raises LIMIT and CLIP are the limiter's alone. -/
theorem Service.close_notices_filter {k : NoticeKind} (hk : k = .limit ∨ k = .clip) :
    (sv.close a b w).notices.filter (fun d => d.kind == k) =
      (limiterNotices (sv.close a b w).service).filter fun d => d.kind == k := by
  rw [Service.close_notices, List.filter_append, List.filter_append, List.filter_append, filter_kind_eq_nil,
    filter_kind_eq_nil, filter_kind_eq_nil, List.nil_append]
  · rfl
  · intro d hd
    rw [kind_of_mem_deviationNotice hd]
    rcases hk with rfl | rfl <;> decide
  · intro d hd
    rw [kind_of_mem_feedNotice hd]
    rcases hk with rfl | rfl <;> decide
  · intro d hd
    rw [kind_of_mem_stateNotice hd]
    rcases hk with rfl | rfl <;> decide

end

/-- Settles O22: `Service.close_notices` gives the raises, `Service.close_queue` with R125's equations the queue. -/
theorem limiterAtClose : Obligations.LimiterAtClose := by
  refine ⟨fun sv a b w => ?reports, fun sv a b w p hp hl hout => ?ceiling⟩
  case reports =>
    obtain ⟨hlastMin, hlastClips, hmin, hclips, htotal⟩ := sv.close_reports a b w
    refine ⟨hlastMin, hlastClips, hmin, hclips, htotal, ?limit, ?clip, sv.close_notices_ordered a b w⟩
    case limit =>
      rw [sv.close_notices_filter a b w (.inl rfl), sv.close_limiterRaises]
      split <;> split <;> rfl
    case clip =>
      rw [sv.close_notices_filter a b w (.inr rfl), sv.close_limiterRaises]
      split <;> split <;> rfl
  case ceiling =>
    have hstate : sv.lifecycle.measuring = true ∨ sv.lifecycle = .halting := by
      rw [Lifecycle.measuring_iff, or_assoc, or_assoc]
      exact hl
    have hqueue : (sv.close a b w).service.lim.queue = sv.profileStage.lim.queue := by
      rcases sv.close_queue a b w with ⟨⟨taken, cause, hd⟩, -⟩ | ⟨hq, -⟩
      · exact absurd hd (sv.decision_ne_resume a b w hstate taken cause)
      · exact hq
    rw [hqueue, Service.profileStage_queue hp]
    refine List.map_congr_left fun seg hseg => ?_
    cases hpk : seg.peak with
    | none => exact Segment.relimited_of_no_peak _ hpk
    | some pk => exact (Segment.relimited_of_peak _ (hout seg hseg) hpk).trans (by rw [hpk])

end Sys2Proof.Machine
end

section
/-! PROOF. Every command keeps the look-ahead queues lawful, and a fade in progress within its frames (R118, R119, R125, R127,
R131): O59. -/

namespace Sys2Proof.Machine

/-! ### What no frame position enters (R93, R131) -/

namespace Service.Equipped

variable {sv sv' : Service} (h : sv.Equipped)
include h

/-- This part reads the map, the profiles and the fade of a record, and whether it is VACANT. -/
theorem congr (hv : sv.lifecycle = .vacant → sv'.lifecycle = .vacant) (hmap : sv'.map = sv.map)
    (hp : sv'.profile = sv.profile) (hpending : sv'.pendingProfile = sv.pendingProfile)
    (hfade : sv'.lim.fade = sv.lim.fade) : sv'.Equipped := by
  unfold Service.Equipped
  rw [hmap, hp, hpending, hfade]
  obtain ⟨hsv, hrest⟩ := h
  exact ⟨fun hn => hsv fun hl => hn (hv hl), hrest⟩

/-- In particular when it ran before. -/
theorem of_running (hr : sv.lifecycle.running = true) (hmap : sv'.map = sv.map)
    (hp : sv'.profile = sv.profile) (hpending : sv'.pendingProfile = sv.pendingProfile)
    (hfade : sv'.lim.fade = sv.lim.fade) : sv'.Equipped :=
  h.congr (fun hv => absurd hv (Lifecycle.ne_vacant_of_running hr)) hmap hp hpending hfade

theorem close (hr : sv.lifecycle.running = true) (a b : Bool) (w : Word32) : (sv.close a b w).service.Equipped := by
  obtain ⟨hmap, hp, hpending, hfade⟩ := h
  refine ⟨fun _ => ?_, ?_, by simp, ?_⟩
  · rw [Service.close_map]
    exact hmap (Lifecycle.ne_vacant_of_running hr)
  · rw [Service.close_profile]
    cases hq : sv.pendingProfile with
    | none => exact hp
    | some p => exact hpending p hq
  · rw [Service.close_lim]
    exact hfade

theorem changed (hc : Service.Change sv sv') : sv'.Equipped := by
  obtain ⟨hmap, hp, hpending, hfade⟩ := id h
  cases hc with
  | framed i slotsA slotsB => exact h.atFrame _ _ _
  | closed usableA usableB stamp running => exact h.close running _ _ _
  | started entry idle =>
    exact ⟨fun _ => hmap (by rw [idle]; decide), hp, hpending, FadeState.lawful_silent⟩
  | bypassLeft bypass => exact h.of_running (by rw [bypass]; rfl) rfl rfl rfl rfl
  | halted running => exact h.of_running running rfl rfl rfl rfl
  | bypassed live => exact h.of_running (by rcases live with hl | hl <;> rw [hl] <;> rfl) rfl rfl rfl rfl
  | restarted running => exact h.of_running running rfl rfl rfl rfl
  | resumeLeft | bypassWaiting | marked | selected => exact h.congr id rfl rfl rfl rfl
  | profilePending accepted running =>
    exact ⟨hmap, hp, fun _ hq => Option.some.inj hq ▸ profileOfPayload_valid accepted, hfade⟩
  | profiled accepted still => exact ⟨hmap, profileOfPayload_valid accepted, hpending, hfade⟩
  | @mapped _ _ layout channels still fits =>
    obtain ⟨hlen, -⟩ := fits
    refine ⟨fun _ hnil => ?_, hp, hpending, hfade⟩
    have hchannels : channels = [] := hnil
    rw [hchannels] at hlen
    cases layout <;> cases hlen
  | unmapped idle => exact ⟨fun hv => absurd rfl hv, hp, hpending, hfade⟩
  | kept =>
    refine ⟨fun hv => hmap fun hl => hv (if_pos hl), hp, fun _ hq => (by cases hq), FadeState.lawful_silent⟩
  | loaded payload =>
    exact ⟨fun hv => absurd rfl hv, loadedProfile_valid payload, fun _ hq => (by cases hq), FadeState.lawful_silent⟩
  | factory => exact ⟨fun hv => absurd rfl hv, Profile.factory_valid, fun _ hq => (by cases hq), FadeState.lawful_silent⟩

end Service.Equipped

/-! ### The queue of one record -/

section
variable {sv sv' : Service} {frame : Nat}

theorem Service.queueLaw_of_still (hr : sv.lifecycle.running = false) : sv.QueueLaw frame :=
  fun hrun => by rw [hr] at hrun; cases hrun

/-- An empty queue is lawful at every frame (R120). -/
theorem Service.queueLaw_of_empty (hq : sv.lim.queue = []) (hg : 0 ≤ sv.lim.lastGain) : sv.QueueLaw frame := by
  intro _
  split
  · exact ⟨hq, hg⟩
  · exact Limiter.lawful_of_empty hq hg

/-- In particular as a reset leaves it (R139). -/
theorem Service.UnitsCleared.queueLaw (h : sv.UnitsCleared) : sv.QueueLaw frame := by
  obtain ⟨-, -, -, -, -, -, -, hlim, -⟩ := h
  refine Service.queueLaw_of_empty ?_ ?_ <;> rw [hlim]
  decide

theorem Service.started_queueLaw (sv : Service) (entry : Bool) : (sv.started entry).QueueLaw frame :=
  Service.queueLaw_of_empty rfl (by decide : (0 : Int) ≤ Config.unity)

/-- A record that leaves limiter, entry marker, profile and map alone keeps the law. -/
theorem Service.QueueLaw.congr (h : sv.QueueLaw frame) (hr : sv'.lifecycle.running = true → sv.lifecycle.running = true)
    (hentry : sv'.entryMarker = sv.entryMarker) (hlim : sv'.lim = sv.lim) (hp : sv'.profile = sv.profile)
    (hmap : sv'.map = sv.map) : sv'.QueueLaw frame := by
  intro hrun
  rw [hentry, hlim, hp, hmap]
  exact h (hr hrun)

/-- A close, which comes between segments. -/
theorem Service.QueueLaw.close (h : sv.QueueLaw 4800) (hr : sv.lifecycle.running = true) (a b : Bool) (w : Word32) :
    (sv.close a b w).service.QueueLaw 0 := by
  intro _
  rw [Service.close_entryMarker, if_neg Bool.false_ne_true, Service.close_profile, Service.close_map]
  rcases sv.close_queue a b w with ⟨-, hq, hg⟩ | ⟨hq, hg⟩
  · exact Limiter.lawful_of_empty hq (by rw [hg]; decide)
  have hbefore := h hr
  cases he : sv.entryMarker with
  | true =>
    rw [he, if_pos rfl] at hbefore
    obtain ⟨hempty, hgain⟩ := hbefore
    exact Limiter.lawful_of_empty (hq.trans (Service.profileStage_queue_nil hempty)) (hg ▸ hgain)
  | false =>
    rw [he, if_neg Bool.false_ne_true] at hbefore
    exact (Limiter.Lawful.profileStage hbefore).congr hq (hg.trans sv.profileStage_lim_lastGain.symm)

end

/-! ### The queues of all services -/

/-- Every service's queue is lawful at the frame in progress. -/
structure State.QueuesLawful (s : State) : Prop where
  queue : ∀ n, (s.service n).QueueLaw s.frame

namespace State.QueuesLawful

variable {s t : State} (h : s.QueuesLawful)
include h

theorem of_records (ht : t.records = s.records) : t.QueuesLawful := by
  refine ⟨fun n => ?_⟩
  rw [State.service_of_records ht, State.frame_of_records ht]
  exact h.queue n

theorem setService {n : ServiceIndex} {sv : Service} (hsv : sv.QueueLaw s.frame) : (s.setService n sv).QueuesLawful := by
  refine ⟨fun m => ?_⟩
  rw [State.service_setService]
  split
  · exact hsv
  · exact h.queue m

theorem remapped (n : ServiceIndex) (channels : List ChannelMap) : (s.remapped n channels).QueuesLawful :=
  ⟨h.queue⟩

/-- Writing a service that ran, with its limiter, entry marker, profile and map left alone. -/
theorem setRunning {n : ServiceIndex} {sv : Service} (hr : (s.service n).lifecycle.running = true)
    (hentry : sv.entryMarker = (s.service n).entryMarker) (hlim : sv.lim = (s.service n).lim)
    (hp : sv.profile = (s.service n).profile) (hmap : sv.map = (s.service n).map) :
    (s.setService n sv).QueuesLawful :=
  h.setService ((h.queue n).congr (fun _ => hr) hentry hlim hp hmap)

end State.QueuesLawful

/-! ### Requests -/

section
variable {s : State} (h : s.QueuesLawful) (n : ServiceIndex) (f : ControlFrame)
include h

theorem startAct_queuesLawful : (startAct n f s).1.QueuesLawful := by
  unfold startAct
  dsimp only
  split
  · split
    · exact h
    split
    · exact h
    · exact ⟨(h.setService (n := n) (Service.started_queueLaw _ true)).queue⟩
  · next hl =>
    split
    · exact h
    · exact h.setRunning (by rw [hl]; rfl) rfl rfl rfl rfl
  · next hl _ =>
    split
    · exact h
    · exact h.setRunning (by rw [hl]; rfl) rfl rfl rfl rfl
  · exact h

theorem haltAct_queuesLawful : (haltAct n f s).1.QueuesLawful := by
  unfold haltAct
  dsimp only
  split
  · exact h
  split
  · exact h
  split
  · exact h
  · next hv _ hi =>
    refine h.setRunning ?_ rfl rfl rfl rfl
    cases hl : (s.service n).lifecycle <;> simp [hl] at hv hi <;> rfl

theorem bypassAct_queuesLawful : (bypassAct n f s).1.QueuesLawful := by
  unfold bypassAct
  dsimp only
  cases hl : (s.service n).lifecycle with
  | vacant | idle | halting => exact h
  | bypass =>
    dsimp only
    split <;> exact h
  | priming | active | dropped =>
    dsimp only
    split
    · exact h
    · exact h.setRunning (by rw [hl]; rfl) rfl rfl rfl rfl

theorem markAct_queuesLawful : (markAct n f s).1.QueuesLawful := by
  unfold markAct
  dsimp only
  cases hl : (s.service n).lifecycle with
  | vacant | idle | halting => exact h
  | priming | active | bypass | dropped =>
    dsimp only
    split
    · split
      · exact h
      · refine h.setRunning (by rw [hl]; rfl) ?_ ?_ ?_ ?_ <;> split <;> rfl
    · exact h

theorem selectAct_queuesLawful : (selectAct n f s).1.QueuesLawful := by
  unfold selectAct
  dsimp only
  split
  · exact h
  split
  · split
    · exact h.setService ((h.queue n).congr id rfl rfl rfl rfl)
    · exact h
  · exact h

theorem profileAct_queuesLawful (protect : PinLevel) : (profileAct protect n f s).1.QueuesLawful := by
  unfold profileAct
  dsimp only
  split
  · exact h
  split
  · exact h
  generalize (if protect = .high then _ else none : Option Byte) = refusal
  cases refusal with
  | some index => exact h
  | none =>
    dsimp only
    split
    · exact h.setService ((h.queue n).congr id rfl rfl rfl rfl)
    · next hr => exact h.setService (Service.queueLaw_of_still (Bool.eq_false_iff.mpr hr))

theorem mapAct_queuesLawful : (mapAct n f s).1.QueuesLawful := by
  rcases mapAct_holdings n f s with he | ⟨layout, channels, -, -, he⟩ <;> rw [he]
  · exact h
  · rw [State.mapService]
    exact (h.remapped n channels).setService (Service.queueLaw_of_still rfl)

theorem unmapAct_queuesLawful : (unmapAct n f s).1.QueuesLawful := by
  rcases unmapAct_holdings n f s with he | ⟨-, he⟩ <;> rw [he]
  · exact h
  · rw [State.unmapService]
    exact (h.remapped n []).setService (Service.queueLaw_of_still rfl)

end

/-- A served request keeps the queues lawful as its rule does. -/
theorem serve_queuesLawful {s : State} (h : s.QueuesLawful) {kind : Byte}
    {act : ControlFrame → State → State × Answer}
    (hact : ∀ f (t : State), t.QueuesLawful → (act f t).1.QueuesLawful) : (serve kind act s).QueuesLawful :=
  serve_keeps (fun t ht => ht.of_records t.dequeued_records) hact
    (fun t frame mark ht => ht.of_records ((State.kick_records _).trans (t.appendReply_records frame mark))) h

theorem serve_onService_queuesLawful {s : State} (h : s.QueuesLawful) {kind : Byte}
    {act : ServiceIndex → ControlFrame → State → State × Answer}
    (hact : ∀ {t : State}, t.QueuesLawful → ∀ n f, (act n f t).1.QueuesLawful) :
    (serve kind (onService act) s).QueuesLawful :=
  serve_queuesLawful h fun f _ ht => onService_keeps f (fun n f _ hu => hact hu n f) ht

theorem profileRequest_queuesLawful {s : State} (h : s.QueuesLawful) (protect : PinLevel) :
    (profileRequest protect s).QueuesLawful :=
  serve_queuesLawful h fun f t ht => onService_keeps f (fun n f _ hu => profileAct_queuesLawful hu n f protect)
    (ht.of_records (t.sampleProtect_records protect))


/-! ### Frames and closes -/

theorem outputFrame_of_not_due {s : State} (h : ¬(s.operating = true ∧ s.clock.start = .given ∧ s.frame < 4800)) :
    outputFrame s = s :=
  if_neg (by simpa [and_assoc] using h)

theorem subblockEnd_of_not_due {s : State} (h : ¬(s.operating = true ∧ s.frame = 4800)) (order : List CloseItem) :
    subblockEnd order s = s :=
  if_neg (by simpa using h)

theorem outputFrame_queuesLawful {s : State} (h : ∀ n, (s.service n).LimiterLaw s.frame) :
    (outputFrame s).QueuesLawful := by
  by_cases hdue : s.operating = true ∧ s.clock.start = .given ∧ s.frame < 4800
  · obtain ⟨ho, hg, hf⟩ := hdue
    exact ⟨fun n => (outputFrame_limiterLaw ho hg hf h n).queueLaw⟩
  · rw [outputFrame_of_not_due hdue]
    exact ⟨fun n => (h n).queueLaw⟩

theorem subblockEnd_queuesLawful {s : State} (h : s.QueuesLawful) (order : List CloseItem) :
    (subblockEnd order s).QueuesLawful := by
  by_cases hdue : s.operating = true ∧ s.frame = 4800
  · obtain ⟨ho, hf⟩ := hdue
    refine ⟨fun n => ?_⟩
    have hn : (s.service n).QueueLaw 4800 := hf ▸ h.queue n
    rw [subblockEnd_service order ho hf, State.closedService, subblockEnd_eq order ho hf]
    split
    · next hr => exact hn.close hr _ _ _
    · next hr => exact Service.queueLaw_of_still (Bool.eq_false_iff.mpr hr)
  · rwa [subblockEnd_of_not_due hdue]

/-! ### Resets -/

/-- RESET_REQUEST_ACTS leaves the part alone, or configures it by its option (R188). -/
theorem resetRequestActs_cases (s : State) :
    resetRequestActs s = s ∨
      ∃ option, resetRequestActs s = ((s.configured option).clearedFor .request).autostarted .request := by
  cases hphase : s.control.resetPhase with
  | none | waiting => exact .inl (by simp [resetRequestActs, hphase])
  | due option =>
    by_cases ho : s.operating = true
    · exact .inr ⟨option, resetRequestActs_of_due ho hphase⟩
    · exact .inl (by simp [resetRequestActs, hphase, ho])

section
variable (s : State) (rate1 rate0 : PinLevel) (age : Option Rat)

/-- POWER_ON moves pins alone, or starts the part up (R187). -/
theorem powerOn_cases :
    (powerOn rate1 rate0 age s).records = s.records ∨
      powerOn rate1 rate0 age s = (s.startCleared .power rate1 rate0 age).autostarted .power := by
  cases hs : s.pins.supplyGood with
  | true => exact .inl (congrArg State.records (if_pos hs))
  | false =>
    cases hr : s.pins.resetAsserted with
    | true =>
      left
      simp only [powerOn, hs, hr, Bool.false_eq_true, if_false, if_true]
      rfl
    | false => exact .inr (powerOn_of_dark hs hr rate1 rate0 age)

/-- So does RESET_PIN_RELEASE. -/
theorem resetPinRelease_cases :
    (resetPinRelease rate1 rate0 age s).records = s.records ∨
      resetPinRelease rate1 rate0 age s = (s.startCleared .pin rate1 rate0 age).autostarted .pin := by
  cases hr : s.pins.resetAsserted with
  | false => exact .inl (congrArg State.records (if_neg (by simp [hr])))
  | true =>
    cases hs : s.pins.supplyGood with
    | true => exact .inr (resetPinRelease_of_held hs hr rate1 rate0 age)
    | false =>
      left
      simp only [resetPinRelease, hs, hr, Bool.false_eq_true, if_false, if_true]
      rfl

end

/-- The end of a reset, from units as every reset leaves them (R55, R139, R187). -/
theorem State.autostarted_queuesLawful {s : State} (h : ∀ n, (s.service n).UnitsCleared) (cause : ResetCause) :
    (s.autostarted cause).QueuesLawful := by
  refine ⟨fun n => ?_⟩
  rcases s.autostarted_service cause n with he | ⟨-, -, he⟩ <;> rw [he]
  · exact (h n).queueLaw
  · exact Service.started_queueLaw _ false

theorem State.startUp_queuesLawful (s : State) (cause : ResetCause) (rate1 rate0 : PinLevel) (age : Option Rat) :
    ((s.startCleared cause rate1 rate0 age).autostarted cause).QueuesLawful :=
  State.autostarted_queuesLawful (s := s.startCleared cause rate1 rate0 age) s.released.reloaded_unitsCleared cause

section
variable {s : State} (h : s.QueuesLawful)
include h

theorem resetRequestActs_queuesLawful : (resetRequestActs s).QueuesLawful := by
  rcases resetRequestActs_cases s with he | ⟨option, he⟩ <;> rw [he]
  · exact h
  · exact State.autostarted_queuesLawful (s := (s.configured option).clearedFor .request)
      (s.configured_unitsCleared option) .request

variable (rate1 rate0 : PinLevel) (age : Option Rat)

theorem powerOn_queuesLawful : (powerOn rate1 rate0 age s).QueuesLawful := by
  rcases powerOn_cases s rate1 rate0 age with hsame | he
  · exact h.of_records hsame
  · rw [he]
    exact s.startUp_queuesLawful .power rate1 rate0 age

theorem resetPinRelease_queuesLawful : (resetPinRelease rate1 rate0 age s).QueuesLawful := by
  rcases resetPinRelease_cases s rate1 rate0 age with hsame | he
  · exact h.of_records hsame
  · rw [he]
    exact s.startUp_queuesLawful .pin rate1 rate0 age

end

/-! ### Every command -/

theorem exec_queuesLawful (c : Instr) {s : State} (hlaw : ∀ n, (s.service n).LimiterLaw s.frame) :
    ∃ t, exec c s = .next t ∧ t.QueuesLawful := by
  have h : s.QueuesLawful := ⟨fun n => (hlaw n).queueLaw⟩
  have hsame : ∀ t : State, t.records = s.records → t.QueuesLawful := fun _ => h.of_records
  cases c with
  | outputFrame => exact ⟨_, rfl, outputFrame_queuesLawful hlaw⟩
  | missingEdge => exact ⟨_, rfl, hsame _ (missingEdge_records s)⟩
  | clockToInternal => exact ⟨_, rfl, hsame _ (clockToInternal_records s)⟩
  | refclkEdge before since => exact ⟨_, rfl, hsame _ (refclkEdge_records s before since)⟩
  | clockToReference => exact ⟨_, rfl, hsame _ (clockToReference_records s)⟩
  | searchFramePosition p bits => exact ⟨_, rfl, hsame _ (searchFramePosition_records s p bits)⟩
  | portLock p body => exact ⟨_, rfl, hsame _ (portLock_records s p body)⟩
  | linkFrameArrival p line => exact ⟨_, rfl, hsame _ (linkFrameArrival_records s p line)⟩
  | portLossOfSync p => exact ⟨_, rfl, hsame _ (portLossOfSync_records s p)⟩
  | subblockEnd order => exact ⟨_, rfl, subblockEnd_queuesLawful h order⟩
  | controlFrameComplete => exact ⟨_, rfl, hsame _ (controlFrameComplete_records s)⟩
  | lengthFault => exact ⟨_, rfl, hsame _ (lengthFault_records s)⟩
  | frameTimeout => exact ⟨_, rfl, hsame _ (frameTimeout_records s)⟩
  | unknownKind => exact ⟨_, rfl, hsame _ (unknownKind_records s)⟩
  | identify => exact ⟨_, rfl, hsame _ (identifyRequest_records s)⟩
  | query protect => exact ⟨_, rfl, hsame _ (queryRequest_records s protect)⟩
  | peek => exact ⟨_, rfl, hsame _ (peekRequest_records s)⟩
  | map => exact ⟨_, rfl, serve_onService_queuesLawful h mapAct_queuesLawful⟩
  | unmap => exact ⟨_, rfl, serve_onService_queuesLawful h unmapAct_queuesLawful⟩
  | profile protect => exact ⟨_, rfl, profileRequest_queuesLawful h protect⟩
  | start => exact ⟨_, rfl, serve_onService_queuesLawful h startAct_queuesLawful⟩
  | halt => exact ⟨_, rfl, serve_onService_queuesLawful h haltAct_queuesLawful⟩
  | bypass => exact ⟨_, rfl, serve_onService_queuesLawful h bypassAct_queuesLawful⟩
  | mark => exact ⟨_, rfl, serve_onService_queuesLawful h markAct_queuesLawful⟩
  | select => exact ⟨_, rfl, serve_onService_queuesLawful h selectAct_queuesLawful⟩
  | ports => exact ⟨_, rfl, hsame _ (portsRequest_records s)⟩
  | notify => exact ⟨_, rfl, hsame _ (notifyRequest_records s)⟩
  | store protect => exact ⟨_, rfl, hsame _ (storeRequest_records s protect)⟩
  | storeComplete good => exact ⟨_, rfl, hsame _ (storeComplete_records s good)⟩
  | reset => exact ⟨_, rfl, hsame _ (resetRequest_records s)⟩
  | resetRequestActs => exact ⟨_, rfl, resetRequestActs_queuesLawful h⟩
  | transmitFrameEnd => exact ⟨_, rfl, hsame _ (transmitFrameEnd_records s)⟩
  | powerOn rate1 rate0 age => exact ⟨_, rfl, powerOn_queuesLawful h rate1 rate0 age⟩
  | resetPinAssert => exact ⟨_, rfl, hsame _ rfl⟩
  | resetPinRelease rate1 rate0 age => exact ⟨_, rfl, resetPinRelease_queuesLawful h rate1 rate0 age⟩
  | controlByteReceived value stop => exact ⟨_, rfl, hsame _ (controlByteReceived_records s value stop)⟩
  | lossOfPower => exact ⟨_, rfl, hsame _ rfl⟩

/-- Settles O59: the part of the law that no frame position enters is kept by every change of a record, and the queues by
`exec_queuesLawful`. -/
theorem limiterLawKept : Obligations.LimiterLawKept := by
  intro s t h hstep
  refine step_keeps (P := fun u => ∀ n, (u.service n).LimiterLaw u.frame) (fun _ _ hu => hu) (fun c u hu => ?_) h hstep
  obtain ⟨v, hv, hchanges⟩ := exec_changes c u
  obtain ⟨v', hv', hqueues⟩ := exec_queuesLawful c hu
  obtain rfl : v = v' := by
    rw [hv] at hv'
    cases hv'
    rfl
  have hequipped := hchanges.keep (P := Service.Equipped) (fun hc hsv => hsv.changed hc)
    fun n => (hu n).equipped
  exact ⟨v, hv, fun n => Service.limiterLaw_iff.mpr ⟨hequipped n, hqueues.queue n⟩⟩

end Sys2Proof.Machine
end

section
/-! PROOF. SELECT in every state, with every mode byte (R156, R157): O40. -/

namespace Sys2Proof.Machine

/-! ### Mode bytes (R156) -/

theorem modeOf_code {reserve : Bool} {mode : SelectionMode} (h : mode = .forceReserve → reserve = true) :
    modeOf reserve mode.code = some mode := by
  cases mode with
  | auto | forceMain => rfl
  | forceReserve => rw [h rfl]; rfl

theorem modeOf_eq_none {reserve : Bool} {b : Byte} (h : 2 < b.toNat ∨ b = 2 ∧ reserve = false) :
    modeOf reserve b = none := by
  rcases h with h | ⟨rfl, rfl⟩
  · have hne : ∀ c : Byte, c.toNat ≤ 2 → b ≠ c := by
      rintro c hc rfl
      exact absurd h (Nat.not_lt.mpr hc)
    rw [modeOf, if_neg (hne 0 (by decide)), if_neg (hne 1 (by decide)), if_neg (mt And.left (hne 2 (by decide)))]
  · rfl

/-! ### The rule of Select (R156, R157) -/

section
variable {n : ServiceIndex} {f : ControlFrame} {s : State} {sv : Service} (hs : s.service n = sv)
include hs

theorem selectAct_of_state (hl : sv.lifecycle = .vacant ∨ sv.lifecycle = .halting) :
    selectAct n f s = (s, stateRefusal sv) := by
  simp [selectAct, hs, hl]

variable (hl : ¬(sv.lifecycle = .vacant ∨ sv.lifecycle = .halting))
include hl

theorem selectAct_of_length (hp : f.payload.length ≠ 1) : selectAct n f s = (s, Answer.length f) := by
  unfold selectAct
  rw [hs]
  dsimp only
  rw [if_neg hl]
  split
  · next b hone => exact absurd (congrArg List.length hone) hp
  · rfl

theorem selectAct_of_range {b : Byte} (hp : f.payload = [b]) (hm : modeOf sv.reserveMapped b = none) :
    selectAct n f s = (s, { status := .range, detail := [b] }) := by
  simp [selectAct, hs, hl, hp, hm]

theorem selectAct_of_mode {b : Byte} {mode : SelectionMode} (hp : f.payload = [b])
    (hm : modeOf sv.reserveMapped b = some mode) :
    selectAct n f s =
      (s.setService n { sv with feeds := { sv.feeds with mode := mode } },
        Answer.ok [mode.code, sv.feeds.inUse.code]) := by
  simp [selectAct, hs, hl, hp, hm]

end

namespace Settled

/-- Settles O40: each clause is one branch of `selectAct`, served. -/
theorem selectRequest : Obligations.SelectRequest := by
  intro s f rest n sv h hu hs
  refine ⟨fun hl => ?state, fun hl hp => ?length, fun hl b hp hb => ?range, fun hl mode hp hmode => ?mode⟩ <;>
    refine congrArg Host.Outcome.next ?_
  case state => exact serve_service_unchanged h hu (selectAct_of_state (s := s.dequeued) hs hl)
  case length => exact serve_service_unchanged h hu (selectAct_of_length (s := s.dequeued) hs hl hp)
  case range => exact serve_service_unchanged h hu (selectAct_of_range (s := s.dequeued) hs hl hp (modeOf_eq_none hb))
  case mode => exact serve_service_written h hu (selectAct_of_mode (s := s.dequeued) hs hl hp (modeOf_code hmode))

end Settled

end Sys2Proof.Machine
end

section
/-! PROOF. The feed monitors at a close (R141 to R144): O23. -/

namespace Sys2Proof.Machine

/-! ### Monitors and ranks (R141 to R143, R145) -/

/-- Level and silent run of a monitor at an updating close (R141, R142). -/
theorem Monitor.closed_eq (m : Monitor) (channels : Nat) (usable : Bool) (threshold : Int) :
    m.closed channels usable threshold =
      { level := feedLevel (m.accum / (4800 * channels))
        silentRun :=
          if usable = true ∧ feedLevel (m.accum / (4800 * channels)) < threshold then min (m.silentRun + 1) 65535 else 0
        accum := 0 } := by
  simp [Monitor.closed, satInc, Config.max16]

theorem rankOf_eq_good_iff {usable : Bool} {time : Int} {m : Monitor} :
    rankOf usable time (some m) = .good ↔ usable = true ∧ (m.silentRun : Int) < time := by
  cases usable with
  | false => simp [rankOf]
  | true => simp [rankOf]

/-- The main-good run counts the closes at which MAIN is GOOD (R143). -/
theorem goodRunAfter_rankOf (usable : Bool) (time : Int) (m : Monitor) (run : Nat) :
    goodRunAfter (rankOf usable time (some m)) run =
      if usable = true ∧ (m.silentRun : Int) < time then min (run + 1) 65535 else 0 := by
  simp only [goodRunAfter, rankOf_eq_good_iff, satInc, Config.max16]

/-! ### Closes that update the monitors, and the others (R144) -/

section
variable {sv : Service}

theorem Service.decides_eq_true (hl : sv.lifecycle.measuring = true ∨ sv.lifecycle = .dropped)
    (he : sv.entryMarker = false) : sv.decides = true := by
  simpa [Service.decides, he] using hl

variable (a b : Bool) (w : Word32)

/-- Decision and lifecycle stage leave the monitors as they are closed. -/
theorem Service.close_mainMonitor :
    (sv.close a b w).service.feeds.mainMonitor = (sv.monitored a b w).feeds.mainMonitor := by
  simp [Service.close_service, Service.decided]

theorem Service.close_reserveMonitor :
    (sv.close a b w).service.feeds.reserveMonitor = (sv.monitored a b w).feeds.reserveMonitor := by
  simp [Service.close_service, Service.decided]

theorem Service.close_mainMonitor_of_decides (hd : sv.decides = true) :
    (sv.close a b w).service.feeds.mainMonitor =
      sv.feeds.mainMonitor.map fun m =>
        let closed := m.monitor.closed sv.channels a (sv.close a b w).service.profile.silenceThreshold
        { monitor := closed
          goodRun :=
            goodRunAfter (rankOf a (sv.close a b w).service.profile.silenceTime (some closed)) m.goodRun } := by
  rw [Service.close_mainMonitor, Service.monitored, hd, Service.close_profile]
  cases hm : sv.feeds.mainMonitor <;> simp [Service.monitorsClosed, Service.channels, hm]

theorem Service.close_reserveMonitor_of_decides (hd : sv.decides = true) :
    (sv.close a b w).service.feeds.reserveMonitor =
      sv.feeds.reserveMonitor.map fun m =>
        m.closed sv.channels b (sv.close a b w).service.profile.silenceThreshold := by
  rw [Service.close_reserveMonitor, Service.monitored, hd, Service.close_profile]
  simp [Service.monitorsClosed, Service.channels]

/-- A close that makes no feed stage empties the accumulators and keeps the rest (R144). -/
theorem Service.close_monitors_of_not_decides (hd : sv.decides = false) :
    (sv.close a b w).service.feeds.reserveMonitor = sv.feeds.reserveMonitor.map (fun m => { m with accum := 0 }) ∧
      (sv.close a b w).service.feeds.mainMonitor =
        sv.feeds.mainMonitor.map fun m => { m with monitor := { m.monitor with accum := 0 } } := by
  rw [Service.close_reserveMonitor, Service.close_mainMonitor, Service.monitored, hd]
  simp [Service.monitorsDiscarded]

end

/-- Settles O23: a close with a feed stage closes both monitors under the profile that it leaves, any other empties them. -/
theorem monitorsAtClose : Obligations.MonitorsAtClose := by
  intro sv ua ub stamp after hafter
  subst hafter
  refine ⟨fun hl he => ?updating, fun h => Service.close_monitors_of_not_decides _ _ _ (Service.decides_eq_false h)⟩
  have hd : sv.decides = true := by
    refine Service.decides_eq_true ?_ he
    rwa [Lifecycle.measuring_iff, or_assoc, or_assoc]
  refine ⟨fun m hm => ⟨_, rfl, ?reserve⟩, fun m hm => ⟨_, _, rfl, rfl, ?main⟩⟩
  case reserve => rw [Service.close_reserveMonitor_of_decides _ _ _ hd, hm, Option.map_some, Monitor.closed_eq]
  case main =>
    rw [Service.close_mainMonitor_of_decides _ _ _ hd, hm, Option.map_some]
    dsimp only
    rw [goodRunAfter_rankOf, Monitor.closed_eq]

end Sys2Proof.Machine
end

section
/-! PROOF. The feed decision of a close by mode and ranks, and what it leaves of the feeds (R148 to R155): O24 and O25. -/

namespace Sys2Proof.Machine

/-! ### The ranks that a close decides on (R144, R145) -/

section
variable {sv : Service} (a b : Bool) (w : Word32)

@[simp] theorem Service.monitored_profile : (sv.monitored a b w).profile = sv.pendingProfile.getD sv.profile := by
  unfold Service.monitored; dsimp only; split <;> simp

/-- The ranks that a close decides on are those that it leaves. -/
@[simp] theorem Service.monitored_mainRank (u : Bool) :
    (sv.monitored a b w).mainRank u = (sv.close a b w).service.mainRank u := by
  rw [Service.mainRank, Service.monitored_profile, ← Service.close_profile sv a b w, ← Service.close_mainMonitor,
    Service.mainRank]

@[simp] theorem Service.monitored_reserveRank (u : Bool) :
    (sv.monitored a b w).reserveRank u = (sv.close a b w).service.reserveRank u := by
  rw [Service.reserveRank, Service.monitored_profile, ← Service.close_profile sv a b w, ← Service.close_reserveMonitor,
    Service.reserveRank]

theorem Service.decision_of_decides (hd : sv.decides = true) :
    sv.decision a b w = (sv.monitored a b w).feedDecision sv.lifecycle a b :=
  if_pos hd

end

/-! ### The decision in AUTO (R148, R149) -/

theorem pickRank_of_eq {main reserve mine others : Rank} {inUse : Feed}
    (h : (mine, others) = if inUse = .main then (main, reserve) else (reserve, main)) :
    mine = pickRank main reserve inUse ∧ others = pickRank main reserve inUse.other := by
  cases inUse <;> exact Prod.mk.inj h

/-- The main-good run of a service, 0 without MAIN monitor. -/
def MainMonitor.runOf (m : Option MainMonitor) : Nat :=
  (m.map (·.goodRun)).getD 0

theorem MainMonitor.le_runOf_of_exists {o : Option MainMonitor} {hold : Int}
    (h : ∃ m, o = some m ∧ hold ≤ m.goodRun) : hold ≤ runOf o := by
  obtain ⟨m, rfl, hm⟩ := h
  exact hm

/-- A return hold of 1 or more needs a MAIN monitor (R143, R149). -/
theorem MainMonitor.le_runOf_iff {o : Option MainMonitor} {hold : Int} (hpos : 1 ≤ hold) :
    hold ≤ runOf o ↔ ∃ m, o = some m ∧ hold ≤ m.goodRun := by
  refine ⟨fun h => ?_, le_runOf_of_exists⟩
  cases o with
  | none => exact absurd (hpos.trans h) (by decide)
  | some m => exact ⟨m, rfl, h⟩

theorem autoReturns_iff {p : Profile} {inUse : Feed} {run : Nat} {main reserve : Rank} :
    autoReturns p inUse run main reserve = true ↔
      inUse = .reserve ∧ p.autoReturn = true ∧ p.returnHold ≤ run ∧ reserve.code ≤ main.code := by
  simp [autoReturns, and_assoc]

section
variable {p : Profile} {inUse : Feed} {run : Nat} {main reserve : Rank}

theorem decideAuto_of_lt (h : (pickRank main reserve inUse).code < (pickRank main reserve inUse.other).code) :
    decideAuto p inUse run main reserve = .switch inUse.other .rank :=
  if_pos h

variable (h : (pickRank main reserve inUse.other).code ≤ (pickRank main reserve inUse).code)
include h

theorem decideAuto_of_returns (hr : autoReturns p inUse run main reserve = true) :
    decideAuto p inUse run main reserve = .switch .main .autoReturn :=
  (if_neg (Nat.not_lt.mpr h)).trans (if_pos hr)

theorem decideAuto_of_not_returns (hr : autoReturns p inUse run main reserve ≠ true) :
    decideAuto p inUse run main reserve =
      if pickRank main reserve inUse = .unusable ∧
          (pickRank main reserve inUse.other = .unusable ∨ pickRank main reserve inUse.other = .absent) then
        .drop inUse .rank
      else .stay :=
  (if_neg (Nat.not_lt.mpr h)).trans (if_neg hr)

end

/-! ### The decision in a forced mode, and the exit check (R150, R153, R154) -/

theorem Rank.usable_iff {r : Rank} : r.usable = true ↔ r = .good ∨ r = .quiet := by
  simp [Rank.usable]

theorem Rank.usable_iff_code {r : Rank} : r.usable = true ↔ 2 ≤ r.code := by
  cases r <;> decide

theorem decideForced_of_usable {forced inUse : Feed} {rank : Rank} (h : rank.usable = true) :
    decideForced forced inUse rank = if forced = inUse then .stay else .switch forced .forced := by
  simp only [decideForced, h, if_true, eq_comm]

theorem decideForced_of_not_usable {forced inUse : Feed} {rank : Rank} (h : rank.usable ≠ true) :
    decideForced forced inUse rank = .drop forced .forced :=
  if_neg h

/-- Usable or not, a forced feed is raised where it is not the feed in use (R155). -/
theorem feedNotice_decideForced (forced inUse : Feed) (rank : Rank) :
    feedNotice inUse (decideForced forced inUse rank) = if forced = inUse then [] else [.feed forced .forced] := by
  by_cases h : rank.usable = true
  · rw [decideForced_of_usable h]
    split <;> rfl
  · rw [decideForced_of_not_usable h]
    rfl

/-- The feed that the exit check takes (R154). -/
def exitFeed (mode : SelectionMode) (main reserve : Rank) : Option Feed :=
  match mode with
  | .auto =>
    if main.usable ∧ (¬reserve.usable ∨ reserve.code ≤ main.code) then some .main
    else if reserve.usable then some .reserve
    else none
  | .forceMain => if main.usable then some .main else none
  | .forceReserve => if reserve.usable then some .reserve else none

/-- A usable feed outranks one that is not, so the check need only compare the codes. -/
theorem exitCheck_eq (mode : SelectionMode) (main reserve : Rank) :
    exitCheck mode main reserve =
      (exitFeed mode main reserve).elim .stay fun feed => .resume feed (if mode = .auto then .rank else .forced) := by
  cases mode with
  | auto =>
    have hmain : (main.usable = true ∧ (¬reserve.usable = true ∨ reserve.code ≤ main.code)) ↔
        (main.usable && decide (reserve.code ≤ main.code)) = true := by
      rw [Bool.and_eq_true, decide_eq_true_iff, Rank.usable_iff_code, Rank.usable_iff_code]
      omega
    simp only [exitCheck, exitFeed, hmain]
    split
    · rfl
    · split <;> rfl
  | forceMain | forceReserve =>
    simp only [exitCheck, exitFeed]
    split <;> rfl

/-! ### The decision of a close by its mode (R148, R150, R154) -/

section
variable {sv : Service} (a b : Bool) (w : Word32)

theorem Service.decision_of_auto (hl : sv.lifecycle.measuring = true) (he : sv.entryMarker = false)
    (hm : sv.feeds.mode = .auto) :
    sv.decision a b w =
      decideAuto (sv.close a b w).service.profile sv.feeds.inUse
        (MainMonitor.runOf (sv.close a b w).service.feeds.mainMonitor) ((sv.close a b w).service.mainRank a)
        ((sv.close a b w).service.reserveRank b) := by
  rw [Service.decision_of_decides _ _ _ (Service.decides_eq_true (.inl hl) he), Service.close_mainMonitor]
  rcases Lifecycle.measuring_iff.mp hl with hl | hl | hl <;> rw [hl] <;>
    simp [Service.feedDecision, hm, MainMonitor.runOf]

theorem Service.decision_of_forced {forced : Feed} {rank : Rank} (hl : sv.lifecycle.measuring = true)
    (he : sv.entryMarker = false)
    (hm : sv.feeds.mode = .forceMain ∧ forced = .main ∧ rank = (sv.close a b w).service.mainRank a ∨
      sv.feeds.mode = .forceReserve ∧ forced = .reserve ∧ rank = (sv.close a b w).service.reserveRank b) :
    sv.decision a b w = decideForced forced sv.feeds.inUse rank := by
  rw [Service.decision_of_decides _ _ _ (Service.decides_eq_true (.inl hl) he)]
  rcases hm with ⟨hm, rfl, rfl⟩ | ⟨hm, rfl, rfl⟩ <;>
    rcases Lifecycle.measuring_iff.mp hl with hl | hl | hl <;> rw [hl] <;> simp [Service.feedDecision, hm]

theorem Service.decision_of_exitCheck (hl : sv.lifecycle = .dropped) (he : sv.entryMarker = false) :
    sv.decision a b w =
      exitCheck sv.feeds.mode ((sv.close a b w).service.mainRank a) ((sv.close a b w).service.reserveRank b) := by
  rw [Service.decision_of_decides _ _ _ (Service.decides_eq_true (.inr hl) he), hl]
  simp [Service.feedDecision]

end

/-! ### What a decision leaves (R151, R153 to R155) -/

section
variable {sv : Service} (a b : Bool) (w : Word32)

/-- The FEED raise of a close is that of its decision (R155). -/
theorem Service.close_feedRaises :
    (sv.close a b w).notices.filter (fun d => d.kind == .feed) = feedNotice sv.feeds.inUse (sv.decision a b w) := by
  rw [Service.close_notices, List.filter_append, List.filter_append, List.filter_append,
    filter_kind_eq_nil fun _ hd => ?state, filter_kind_eq_self fun _ => kind_of_mem_feedNotice,
    filter_kind_eq_nil fun _ hd => ?deviation, filter_kind_eq_nil fun _ hd => ?limiter]
  · simp
  case state => rw [kind_of_mem_stateNotice hd]; decide
  case deviation => rw [kind_of_mem_deviationNotice hd]; decide
  case limiter => rcases kind_of_mem_limiterNotices hd with h | h <;> rw [h] <;> decide

theorem Service.close_mode : (sv.close a b w).service.feeds.mode = sv.feeds.mode := by
  simp [Service.close_service, Service.decided]

/-- Outside HALTING the decision alone moves the feed in use and the crossfade. -/
theorem Service.close_feeds (hl : sv.lifecycle ≠ .halting) :
    (sv.close a b w).service.feeds = (sv.monitored a b w).feeds.decided (sv.decision a b w) := by
  rw [Service.close_service]
  exact Service.lifecycleStage_feeds _ _ _ _ hl

variable {a b w}

theorem Service.close_feeds_of_stay (hl : sv.lifecycle ≠ .halting) (hd : sv.decision a b w = .stay) :
    (sv.close a b w).service.feeds.inUse = sv.feeds.inUse ∧
      (sv.close a b w).service.feeds.crossfade = sv.feeds.crossfade := by
  simp [Service.close_feeds a b w hl, hd, Feeds.decided]

theorem Service.close_feeds_of_switch (hl : sv.lifecycle ≠ .halting) {dest : Feed} {cause : FeedCause}
    (hd : sv.decision a b w = .switch dest cause) :
    (sv.close a b w).service.feeds.inUse = dest ∧
      (sv.close a b w).service.feeds.crossfade = some { old := sv.feeds.inUse, position := 0 } := by
  simp [Service.close_feeds a b w hl, hd, Feeds.decided]

theorem Service.close_feeds_of_drop (hl : sv.lifecycle ≠ .halting) {failed : Feed} {cause : FeedCause}
    (hd : sv.decision a b w = .drop failed cause) :
    (sv.close a b w).service.feeds.inUse = failed ∧
      (sv.close a b w).service.feeds.crossfade = sv.feeds.crossfade := by
  simp [Service.close_feeds a b w hl, hd, Feeds.decided]

theorem Service.close_feeds_of_resume (hl : sv.lifecycle ≠ .halting) {taken : Feed} {cause : FeedCause}
    (hd : sv.decision a b w = .resume taken cause) :
    (sv.close a b w).service.feeds.inUse = taken ∧ (sv.close a b w).service.feeds.crossfade = none := by
  simp [Service.close_feeds a b w hl, hd, Feeds.decided]

/-- A close that measures leaves the service DROPPED only by its decision (R44, R151). -/
theorem Service.close_ne_dropped (hl : sv.lifecycle.measuring = true) (hd : (sv.decision a b w).KeepsState) :
    (sv.close a b w).service.lifecycle ≠ .dropped := by
  obtain ⟨hstate, -⟩ :=
    Service.lifecyclePart_iff.mp (Service.close_of_stay (Lifecycle.ne_halting_of_measuring hl) hd)
  rw [hstate]
  exact Lifecycle.ne_dropped_of_measuring (sv.reached_measuring a b w hl)

theorem Service.close_dropped (hl : sv.lifecycle ≠ .halting) {failed : Feed} {cause : FeedCause}
    (hd : sv.decision a b w = .drop failed cause) : (sv.close a b w).service.lifecycle = .dropped :=
  (Service.lifecyclePart_iff.mp (Service.close_of_drop hl hd)).1

/-- What a switch leaves (R151, R155). -/
theorem Service.close_of_switch (hl : sv.lifecycle.measuring = true) {dest : Feed} {cause : FeedCause}
    (hd : sv.decision a b w = .switch dest cause) :
    (sv.close a b w).service.feeds.inUse = dest ∧ (sv.close a b w).service.lifecycle ≠ .dropped ∧
      (sv.close a b w).service.feeds.crossfade = some { old := sv.feeds.inUse, position := 0 } ∧
      (sv.close a b w).notices.filter (fun d => d.kind == .feed) = [.feed dest cause] := by
  obtain ⟨huse, hcross⟩ := Service.close_feeds_of_switch (Lifecycle.ne_halting_of_measuring hl) hd
  exact ⟨huse, Service.close_ne_dropped hl (.inr ⟨dest, cause, hd⟩), hcross, by rw [Service.close_feedRaises, hd]; rfl⟩

end

/-- Settles O24: each clause is one branch of `decideAuto`, with what that decision leaves. -/
theorem autoFeedDecision : Obligations.AutoFeedDecision := by
  intro sv ua ub stamp after main reserve mine others hl he hmode hafter hmain hreserve hpick
  subst hafter
  dsimp only
  have hl := Lifecycle.measuring_iff.mpr hl
  have hhalt := Lifecycle.ne_halting_of_measuring hl
  have hdecision := Service.decision_of_auto ua ub stamp hl he hmode
  rw [← hmain, ← hreserve] at hdecision
  obtain ⟨rfl, rfl⟩ := pickRank_of_eq hpick
  refine ⟨(Service.close_mode ua ub stamp).trans hmode,
    fun hlt => Service.close_of_switch hl (hdecision.trans (decideAuto_of_lt hlt)), fun hle hreturns => ?returns,
    fun hle hnot => ?stays⟩
  case returns =>
    obtain ⟨huse, hauto, hrun, hcode⟩ := hreturns
    rw [← huse]
    exact Service.close_of_switch hl (hdecision.trans (decideAuto_of_returns hle
      (autoReturns_iff.mpr ⟨huse, hauto, MainMonitor.le_runOf_of_exists hrun, hcode⟩)))
  case stays =>
    obtain ⟨hreturns, hpos⟩ := hnot
    rw [← MainMonitor.le_runOf_iff hpos, ← autoReturns_iff] at hreturns
    rw [decideAuto_of_not_returns hle hreturns] at hdecision
    split at hdecision
    · next hfails =>
      obtain ⟨huse, hcross⟩ := Service.close_feeds_of_drop hhalt hdecision
      exact ⟨huse, hcross, by rw [Service.close_feedRaises, hdecision]; simp [feedNotice],
        iff_of_true (Service.close_dropped hhalt hdecision) hfails⟩
    · next hfails =>
      obtain ⟨huse, hcross⟩ := Service.close_feeds_of_stay hhalt hdecision
      exact ⟨huse, hcross, by rw [Service.close_feedRaises, hdecision]; rfl,
        iff_of_false (Service.close_ne_dropped hl (.inl hdecision)) hfails⟩

/-- Only PRIMING is left by a full ring (R43). -/
theorem Service.reached_of_ne_priming {sv : Service} (hl : sv.lifecycle ≠ .priming) (a b : Bool) (w : Word32) :
    sv.reached a b w = sv.lifecycle :=
  (sv.reached_cases a b w).resolve_right fun ⟨hp, _⟩ => hl hp

/-- A close in a forced mode leaves the forced feed in use, and goes to DROPPED when it is UNUSABLE (R150, R151, R153). -/
theorem Service.close_of_forced {sv : Service} {a b : Bool} {w : Word32} {forced : Feed} {rank : Rank}
    (hl : sv.lifecycle.measuring = true) (hd : sv.decision a b w = decideForced forced sv.feeds.inUse rank) :
    (sv.close a b w).service.feeds.inUse = forced ∧
      (rank.usable = true →
        (sv.close a b w).service.lifecycle ≠ .dropped ∧
          (sv.close a b w).service.feeds.crossfade =
            if forced = sv.feeds.inUse then sv.feeds.crossfade else some { old := sv.feeds.inUse, position := 0 }) ∧
      (rank.usable ≠ true →
        (sv.close a b w).service.lifecycle = .dropped ∧
          (sv.close a b w).service.feeds.crossfade = sv.feeds.crossfade) := by
  have hhalt := Lifecycle.ne_halting_of_measuring hl
  refine ⟨?_, fun hu => ?usable, fun hu => ?unusable⟩
  · rw [Service.close_feeds a b w hhalt, hd, ← sv.monitored_inUse a b w]
    exact Feeds.decideForced_inUse _ _ _
  case usable =>
    rw [decideForced_of_usable hu] at hd
    split at hd
    · next hsame =>
      obtain ⟨-, hcross⟩ := Service.close_feeds_of_stay hhalt hd
      exact ⟨Service.close_ne_dropped hl (.inl hd), by rw [hcross, if_pos hsame]⟩
    · next hother =>
      obtain ⟨-, hcross⟩ := Service.close_feeds_of_switch hhalt hd
      exact ⟨Service.close_ne_dropped hl (.inr ⟨_, _, hd⟩), by rw [hcross, if_neg hother]⟩
  case unusable =>
    rw [decideForced_of_not_usable hu] at hd
    obtain ⟨-, hcross⟩ := Service.close_feeds_of_drop hhalt hd
    exact ⟨Service.close_dropped hhalt hd, hcross⟩

/-- Settles O25: a forced mode by `decideForced`, the exit check by the feed that it takes. -/
theorem forcedModesAndExitCheck : Obligations.ForcedModesAndExitCheck := by
  intro sv ua ub stamp after main reserve he hafter hmain hreserve
  subst hafter hmain hreserve
  dsimp only
  rw [Service.close_feedRaises]
  refine ⟨fun forced rank hl hmode => ?forced, fun resume taken hl hresume htaken => ?exit⟩
  case forced =>
    have hl := Lifecycle.measuring_iff.mpr hl
    have hdecision := Service.decision_of_forced ua ub stamp hl he hmode
    obtain ⟨huse, husable, hunusable⟩ := Service.close_of_forced hl hdecision
    refine ⟨huse, ?_, fun hr => husable (Rank.usable_iff.mpr hr), fun hr => hunusable (by rw [hr]; decide)⟩
    rw [hdecision, feedNotice_decideForced]
  case exit =>
    have hhalt : sv.lifecycle ≠ .halting := by rw [hl]; decide
    have hdecision := Service.decision_of_exitCheck ua ub stamp hl he
    rw [exitCheck_eq] at hdecision
    refine ⟨fun feed hfeed => ?resumes, fun hnone => ?waits⟩
    case resumes =>
      rw [show exitFeed _ _ _ = some feed from htaken.symm.trans hfeed] at hdecision
      obtain ⟨huse, hcross⟩ := Service.close_feeds_of_resume hhalt hdecision
      refine ⟨huse, hcross, ?_, by rw [hdecision]; rfl⟩
      rw [Service.close_of_resume hhalt hdecision]
      simp [Service.resumed, hresume]
    case waits =>
      rw [show exitFeed _ _ _ = none from htaken.symm.trans hnone] at hdecision
      obtain ⟨huse, -⟩ := Service.close_feeds_of_stay hhalt hdecision
      obtain ⟨hstate, hsame, -⟩ := Service.lifecyclePart_iff.mp (Service.close_of_stay hhalt (.inl hdecision))
      refine ⟨huse, hstate.trans ?_, hsame, by rw [hdecision]; rfl⟩
      exact (Service.reached_of_ne_priming (by rw [hl]; decide) ua ub stamp).trans hl

end Sys2Proof.Machine
end

section
/-! PROOF. Every command keeps the bounds of inbox and reply queue (R164, R166, R169) and one entry for each pair of origin and
kind in the notice set (R177): O60. -/

namespace Sys2Proof.Machine

/-! ### The bounds of inbox and reply queue (R164, R166, R169) -/

theorem replyCount_append_le (replies : List Reply) (r : Reply) :
    replyCount (replies ++ [r]) ≤ replyCount replies + 1 := by
  rw [replyCount_append, replyCount_cons, replyCount_nil]
  split <;> omega

/-- A Store's reply is not counted. -/
theorem replyCount_append_store (replies : List Reply) (frame : ControlFrame) :
    replyCount (replies ++ [{ frame, mark := .store }]) = replyCount replies := by
  rw [replyCount_append]
  rfl

theorem ControlPort.lawful_afterReset : ControlPort.afterReset.Lawful :=
  ⟨Nat.zero_le _, Nat.zero_le _, fun _ => Nat.zero_le _⟩

namespace ControlPort.Lawful

variable {c : ControlPort} (h : c.Lawful)
include h

/-- A receiver takes a start byte only while 7 or fewer replies wait (R164). -/
theorem took (value : Byte) : ({ c with receiver := c.receiver.take (replyCount c.replies) value }).Lawful := by
  obtain ⟨hi, hr, hf⟩ := h
  refine ⟨hi, hr, fun hne => ?_⟩
  cases hrec : c.receiver with
  | inFrame bytes => exact hf (by rw [hrec]; simp)
  | hunt =>
    by_contra hfull
    exact hne (by simp only [hrec, ByteReceiver.take]; exact if_neg fun hb => hfull hb.2)

/-- The place that a frame in progress holds in the reply queue is there for the reply that it ends with (R164). -/
theorem frameAnswered (hf : c.receiver ≠ .hunt) (r : Reply) :
    ({ c with receiver := .hunt, replies := c.replies ++ [r] }).Lawful := by
  obtain ⟨hi, -, hroom⟩ := h
  exact ⟨hi, (replyCount_append_le _ r).trans (Nat.succ_le_succ (hroom hf)), fun hne => absurd rfl hne⟩

/-- A request is served only while 6 or fewer replies wait, so that a frame in progress keeps its place (R167). -/
theorem requestAnswered (hroom : replyCount c.replies ≤ 6) (r : Reply) :
    ({ c with replies := c.replies ++ [r] }).Lawful := by
  obtain ⟨hi, -, -⟩ := h
  have hcount : replyCount (c.replies ++ [r]) ≤ 7 := (replyCount_append_le _ r).trans (Nat.succ_le_succ hroom)
  exact ⟨hi, hcount.trans (by decide), fun _ => hcount⟩

theorem storeAnswered (frame : ControlFrame) :
    ({ c with storeJob := none, replies := c.replies ++ [{ frame, mark := .store }] } : ControlPort).Lawful := by
  obtain ⟨hi, hr, hf⟩ := h
  exact ⟨hi, (replyCount_append_store _ _).le.trans hr, fun hne => (replyCount_append_store _ _).le.trans (hf hne)⟩

theorem dequeued : ({ c with inbox := c.inbox.tail }).Lawful := by
  obtain ⟨hi, hr, hf⟩ := h
  exact ⟨(List.tail_sublist _).length_le.trans hi, hr, hf⟩

theorem handedOver (hroom : c.inbox.length < Config.inboxSize) (f : ControlFrame) :
    ({ c with receiver := .hunt, inbox := c.inbox ++ [f] }).Lawful := by
  obtain ⟨-, hr, -⟩ := h
  refine ⟨?_, hr, fun hne => absurd rfl hne⟩
  rw [List.length_append]
  exact hroom

theorem replyGone : c.replyGone.Lawful := by
  obtain ⟨hi, hr, hf⟩ := id h
  unfold ControlPort.replyGone
  split
  · next r rest hq =>
    have hle : replyCount rest ≤ replyCount c.replies := by
      rw [hq, replyCount_cons]
      exact Nat.le_add_left _ _
    exact ⟨hi, hle.trans hr, fun hne => hle.trans (hf hne)⟩
  · exact h

end ControlPort.Lawful

/-! ### One entry for each pair (R177) -/

namespace Notices.Lawful

variable {ns : Notices} (h : ns.Lawful)
include h

/-- An entry that stands in for one of its own pair keeps the law. -/
theorem replaced {e e' : NoticeEntry} {rest : List NoticeEntry} (he : ns.entries = e :: rest) (hp : e'.pair = e.pair) :
    ({ ns with entries := e' :: rest }).Lawful := by
  unfold Notices.Lawful at h ⊢
  rw [he] at h
  rwa [List.map_cons, hp, ← List.map_cons]

theorem masked (mask : Byte) : (ns.masked mask).Lawful :=
  h.sublist (List.filter_sublist.map _)

end Notices.Lawful

/-- What an entry whose frame has been sent leaves: nothing, or itself with the raises of the frame (R180). -/
def NoticeEntry.afterFrame (e : NoticeEntry) : Option NoticeEntry :=
  match e.inFrame with
  | some f =>
    if f.raises = 0 then none
    else some { e with count := f.raises, firstRaised := f.first.getD e.firstRaised, inFrame := none }
  | none => none

theorem Notices.frameDone_eq (ns : Notices) :
    ns.frameDone =
      { ns with
        entries := ns.entries.filter (fun e => e.inFrame.isNone) ++ ns.entries.filterMap NoticeEntry.afterFrame } :=
  rfl

theorem NoticeEntry.afterFrame_of_none {e : NoticeEntry} (h : e.inFrame = none) : e.afterFrame = none := by
  simp only [NoticeEntry.afterFrame, h]

theorem NoticeEntry.afterFrame_of_sent {e : NoticeEntry} {during : FrameRaises} (h : e.inFrame = some during) :
    e.afterFrame =
      if during.raises = 0 then none
      else some { e with count := during.raises, firstRaised := during.first.getD e.firstRaised, inFrame := none } := by
  simp only [NoticeEntry.afterFrame, h]

theorem NoticeEntry.pair_of_afterFrame {e e' : NoticeEntry} (h : e.afterFrame = some e') :
    e'.pair = e.pair ∧ e.inFrame.isNone = false := by
  cases hf : e.inFrame with
  | none => exact absurd (h.symm.trans (NoticeEntry.afterFrame_of_none hf)) (by simp)
  | some f =>
    rw [NoticeEntry.afterFrame_of_sent hf, Option.ite_none_left_eq_some, Option.some.injEq] at h
    obtain ⟨-, rfl⟩ := h
    exact ⟨rfl, rfl⟩

/-- The pairs that stay are among those whose frame was being sent. -/
theorem pairs_filterMap_afterFrame_sublist (entries : List NoticeEntry) :
    ((entries.filterMap NoticeEntry.afterFrame).map NoticeEntry.pair).Sublist
      ((entries.filter fun e => !e.inFrame.isNone).map NoticeEntry.pair) := by
  induction entries with
  | nil => exact List.Sublist.refl _
  | cons e entries ih =>
    cases ha : e.afterFrame with
    | none =>
      rw [List.filterMap_cons_none ha]
      exact ih.trans (((List.sublist_cons_self e entries).filter _).map _)
    | some e' =>
      obtain ⟨hp, hsent⟩ := NoticeEntry.pair_of_afterFrame ha
      rw [List.filterMap_cons_some ha, List.filter_cons_of_pos (by simp [hsent]), List.map_cons, List.map_cons, hp]
      exact ih.cons_cons _

theorem Notices.Lawful.frameDone {ns : Notices} (h : ns.Lawful) : ns.frameDone.Lawful := by
  unfold Notices.Lawful at h ⊢
  have hall := ((List.filter_append_perm (fun e => e.inFrame.isNone) ns.entries).map NoticeEntry.pair).nodup_iff.mpr h
  rw [List.map_append] at hall
  rw [Notices.frameDone_eq, List.map_append]
  exact hall.sublist ((List.Sublist.refl _).append (pairs_filterMap_afterFrame_sublist ns.entries))

/-! ### Both laws of one part -/

/-- The laws of the control port and of the notice set (chapters 9 and 10). -/
structure State.PortLaw (s : State) : Prop where
  control : s.control.Lawful
  notices : s.notices.Lawful

/-- A part whose control port and notice set are those of another. -/
structure State.SamePort (s t : State) : Prop where
  control : t.control = s.control
  notices : t.notices = s.notices

namespace State.SamePort

theorem refl (s : State) : s.SamePort s := ⟨rfl, rfl⟩

theorem of_service {s t : State} {n : ServiceIndex} (h : t = s ∨ ∃ sv, t = s.setService n sv) : s.SamePort t := by
  rcases h with rfl | ⟨sv, rfl⟩
  · exact .refl _
  · exact ⟨rfl, rfl⟩

theorem onService {act : ServiceIndex → ControlFrame → State → State × Answer}
    (hact : ∀ n f (t : State), t.SamePort (act n f t).1) (f : ControlFrame) (s : State) :
    s.SamePort (onService act f s).1 :=
  onService_keeps (P := s.SamePort) f
    (fun n f t ht => ⟨(hact n f t).control.trans ht.control, (hact n f t).notices.trans ht.notices⟩) (.refl s)

end State.SamePort

namespace State.PortLaw

variable {s t : State} (h : s.PortLaw)
include h

theorem of_same (ht : s.SamePort t) : t.PortLaw := by
  obtain ⟨hc, hn⟩ := ht
  exact ⟨hc ▸ h.control, hn ▸ h.notices⟩

theorem raise (o : Origin) (d : Detail) : (s.raise o d).PortLaw :=
  ⟨h.control, Notices.lawful_raise h.notices o d _⟩

theorem raiseAll (o : Origin) (ds : List Detail) : (s.raiseAll o ds).PortLaw :=
  List.foldlRecOn ds _ h fun _ ht d _ => ht.raise o d

theorem kick : s.kick.PortLaw := by
  rcases s.kick_cases with hk | ⟨r, rest, -, -, hk⟩ | ⟨e, rest, -, -, he, hk⟩ <;> rw [hk]
  · exact h
  · exact ⟨h.control, h.notices⟩
  · exact ⟨h.control, h.notices.replaced he rfl⟩

theorem portChanged (p : Port) (r : Receiver) (raised : Bool) : (s.portChanged p r raised).PortLaw := by
  have hset : (s.setReceiver p r).PortLaw := h.of_same ⟨s.setReceiver_control p r, s.setReceiver_notices p r⟩
  cases raised with
  | false => exact hset
  | true => exact hset.raise _ _

/-- The reply to a served request (R167). -/
theorem requestAnswered (hroom : replyCount s.control.replies ≤ 6) (frame : ControlFrame) (mark : ReplyMark) :
    (s.appendReply frame mark).kick.PortLaw :=
  State.PortLaw.kick ⟨h.control.requestAnswered hroom _, h.notices⟩

/-- The reply that ends a frame in progress (R165, R166). -/
theorem frameAnswered (hf : s.control.receiver ≠ .hunt) (frame : ControlFrame) :
    ({ s with control := { s.control with receiver := .hunt } }.appendReply frame .ordinary).kick.PortLaw :=
  State.PortLaw.kick ⟨h.control.frameAnswered hf _, h.notices⟩

theorem dequeued : s.dequeued.PortLaw :=
  ⟨h.control.dequeued, h.notices⟩

end State.PortLaw

/-! ### Clock unit, ports and time base -/

section
variable {s : State} (h : s.PortLaw)
include h

theorem missingEdge_portLaw : (missingEdge s).PortLaw := by
  unfold missingEdge
  split
  · exact h.of_same ⟨rfl, rfl⟩
  · exact h

theorem refclkEdge_portLaw (before : Rat) (since : Option Rat) : (refclkEdge before since s).PortLaw := by
  unfold refclkEdge
  split
  · exact h.of_same ⟨rfl, rfl⟩
  · exact h

/-- A new clock state with its CLOCK notice (R1, R2). -/
theorem State.PortLaw.clockChanged (c : Clock) (d : Detail) :
    ({ s with clock := c }.raise .device d).kick.PortLaw :=
  ((h.of_same (t := { s with clock := c }) ⟨rfl, rfl⟩).raise _ _).kick

theorem clockToInternal_portLaw : (clockToInternal s).PortLaw := by
  unfold clockToInternal
  split
  · exact h.clockChanged _ _
  · exact h

theorem clockToReference_portLaw : (clockToReference s).PortLaw := by
  unfold clockToReference
  split
  · exact h.clockChanged _ _
  · exact h

theorem searchFramePosition_portLaw (p : Port) (bits : Option (BitVec 16)) : (searchFramePosition p bits s).PortLaw := by
  unfold searchFramePosition
  dsimp only
  split
  · exact h.portChanged _ _ _
  · exact h

theorem portLock_portLaw (p : Port) (body : LinkBody) : (portLock p body s).PortLaw := by
  unfold portLock
  dsimp only
  split
  · exact (h.portChanged _ _ _).kick
  · exact h

theorem linkFrameArrival_portLaw (p : Port) (line : Option LinkFrame) : (linkFrameArrival p line s).PortLaw := by
  unfold linkFrameArrival
  dsimp only
  split
  · exact (h.portChanged _ _ _).kick
  · exact h

theorem portLossOfSync_portLaw (p : Port) : (portLossOfSync p s).PortLaw := by
  unfold portLossOfSync
  dsimp only
  split
  · exact (h.portChanged _ _ _).kick
  · exact h

theorem outputFrame_portLaw : (outputFrame s).PortLaw := by
  unfold outputFrame
  split
  · exact h.of_same ⟨rfl, rfl⟩
  · exact h

theorem State.PortLaw.closeService (n : ServiceIndex) : (s.closeService n).PortLaw := by
  unfold State.closeService
  dsimp only
  split
  · refine State.PortLaw.raiseAll ?_ _ _
    exact h.of_same ⟨rfl, rfl⟩
  · exact h

theorem State.PortLaw.closeItem (changed : Port → Bool) (i : CloseItem) : (State.closeItem changed s i).PortLaw := by
  cases i with
  | service n => exact h.closeService n
  | port p =>
    unfold State.closeItem
    dsimp only
    split
    · exact h.raise _ _
    · exact h

theorem subblockEnd_portLaw (order : List CloseItem) : (subblockEnd order s).PortLaw := by
  by_cases hdue : s.operating = true ∧ s.frame = 4800
  · obtain ⟨ho, hf⟩ := hdue
    have hitems : (s.itemsTaken order).PortLaw :=
      List.foldlRecOn (completeOrder order) _ (h.of_same ⟨rfl, rfl⟩) fun _ ht i _ => ht.closeItem _ i
    rw [subblockEnd_of_due order ho hf]
    exact State.PortLaw.kick (hitems.of_same ⟨rfl, rfl⟩)
  · rwa [subblockEnd_of_not_due hdue]

/-! ### The control port's line -/

theorem controlByteReceived_portLaw (value : Byte) (stop : PinLevel) : (controlByteReceived value stop s).PortLaw := by
  unfold controlByteReceived
  split
  · exact ⟨h.control.took value, h.notices⟩
  · exact h

theorem State.PortLaw.frameDiscarded (hf : s.control.receiver ≠ .hunt) (reason : Byte) :
    (s.frameDiscarded reason).PortLaw :=
  h.frameAnswered hf _

theorem State.PortLaw.handOver (hf : s.control.receiver ≠ .hunt) (f : ControlFrame) : (s.handOver f).PortLaw := by
  unfold State.handOver
  split
  · next hroom => exact ⟨h.control.handedOver hroom f, h.notices⟩
  · exact h.frameAnswered hf _

theorem controlFrameComplete_portLaw : (controlFrameComplete s).PortLaw := by
  unfold controlFrameComplete
  split
  · next bytes hrec =>
    have hf : s.control.receiver ≠ .hunt := by simp [hrec]
    split
    · split
      · exact h.handOver hf _
      · exact h.frameDiscarded hf _
    · exact h
  · exact h

theorem lengthFault_portLaw : (lengthFault s).PortLaw := by
  unfold lengthFault
  split
  · next bytes hrec =>
    split
    · exact h.frameDiscarded (by simp [hrec]) _
    · exact h
  · exact h

theorem frameTimeout_portLaw : (frameTimeout s).PortLaw := by
  unfold frameTimeout
  split
  · next bytes hrec =>
    split
    · exact h.frameDiscarded (by simp [hrec]) _
    · exact h
  · exact h

theorem transmitFrameEnd_portLaw : (transmitFrameEnd s).PortLaw := by
  unfold transmitFrameEnd
  split
  · split
    · exact h
    · exact State.PortLaw.kick ⟨h.control.replyGone, h.notices⟩
    · exact State.PortLaw.kick ⟨h.control, h.notices.frameDone⟩
  · exact h

end

/-! ### Requests -/

/-- A request is served only while 6 or fewer replies wait (R167). -/
theorem State.replyCount_of_servable {s : State} {kinds : Byte → Bool} {f : ControlFrame}
    (h : s.servable kinds = some f) : replyCount s.control.replies ≤ 6 := by
  by_contra hfull
  have hnone : s.servable kinds = none := by simp [State.servable, hfull]
  exact absurd (h.symm.trans hnone) (by simp)

/-- Serving keeps the laws when the request's rule leaves the control port alone and the notice set lawful. -/
theorem serve_portLaw {s : State} {kind : Byte} {act : ControlFrame → State → State × Answer} (h : s.PortLaw)
    (hcontrol : ∀ f t, (act f t).1.control = t.control)
    (hnotices : ∀ f t, t.notices.Lawful → (act f t).1.notices.Lawful) : (serve kind act s).PortLaw := by
  unfold serve
  split
  · exact h
  · next f hs =>
    have hc := hcontrol f s.dequeued
    have hdone : (act f s.dequeued).1.PortLaw := ⟨hc ▸ h.dequeued.control, hnotices f _ h.notices⟩
    have hroom := State.replyCount_of_servable hs
    exact hdone.requestAnswered (hc ▸ hroom) _ _

theorem serve_portLaw_of_same {s : State} {kind : Byte} {act : ControlFrame → State → State × Answer} (h : s.PortLaw)
    (hact : ∀ f t, State.SamePort t (act f t).1) : (serve kind act s).PortLaw :=
  serve_portLaw h (fun f t => (hact f t).control) fun f t ht => (hact f t).notices ▸ ht

/-- A request to a service, whose rule leaves the part alone or writes that service. -/
theorem serve_service_portLaw {s : State} {kind : Byte} {act : ServiceIndex → ControlFrame → State → State × Answer}
    (h : s.PortLaw) (hact : ∀ n f t, (act n f t).1 = t ∨ ∃ sv, (act n f t).1 = t.setService n sv) :
    (serve kind (onService act) s).PortLaw :=
  serve_portLaw_of_same h (State.SamePort.onService fun n f t => State.SamePort.of_service (hact n f t))

/-- Notify filters the notice set by its new mask (R182). -/
theorem notifyAct_notices (f : ControlFrame) (t : State) :
    (notifyAct f t).1.notices = t.notices ∨ ∃ mask, (notifyAct f t).1.notices = t.notices.masked mask := by
  by_cases hu : f.unit = 0xFF
  · by_cases hl : f.payload.length = 1
    · obtain ⟨mask, hp⟩ := List.length_eq_one_iff.mp hl
      exact .inr ⟨mask, by rw [notifyAct_of_mask t hu hp]⟩
    · exact .inl (by rw [notifyAct_of_length t hu hl])
  · exact .inl (by rw [notifyAct_of_other_unit t hu])

section
variable {s : State} (h : s.PortLaw)
include h

theorem unknownKind_portLaw : (unknownKind s).PortLaw := by
  unfold unknownKind
  split
  · exact h
  · next f hs =>
    have hroom := State.replyCount_of_servable hs
    exact h.dequeued.requestAnswered hroom _ _

theorem identifyRequest_portLaw : (identifyRequest s).PortLaw :=
  serve_portLaw_of_same h fun f t => (identifyAct_state f t).symm ▸ .refl t

theorem queryRequest_portLaw (protect : PinLevel) : (queryRequest protect s).PortLaw :=
  serve_portLaw_of_same h fun f t => by
    rw [queryAct_state]
    exact ⟨rfl, rfl⟩

theorem peekRequest_portLaw : (peekRequest s).PortLaw :=
  serve_portLaw_of_same h fun f t => (peekAct_state f t).symm ▸ .refl t

theorem mapRequest_portLaw : (mapRequest s).PortLaw := by
  refine serve_portLaw_of_same h (State.SamePort.onService fun n f (t : State) => ?_)
  rcases mapAct_cases n f t with he | ⟨layout, channels, he⟩ <;> rw [he]
  · exact .refl t
  · exact ⟨t.mapService_control n layout channels, t.mapService_notices n layout channels⟩

theorem unmapRequest_portLaw : (unmapRequest s).PortLaw := by
  refine serve_portLaw_of_same h (State.SamePort.onService fun n f (t : State) => ?_)
  rcases unmapAct_cases n f t with he | he <;> rw [he]
  · exact .refl t
  · exact ⟨t.unmapService_control n, by rw [State.unmapService, State.setService_notices, State.remapped_notices]⟩

theorem profileRequest_portLaw (protect : PinLevel) : (profileRequest protect s).PortLaw :=
  serve_portLaw_of_same h fun f t =>
    have hact := State.SamePort.onService (fun n f t => State.SamePort.of_service (profileAct_cases n f t protect)) f
      (t.sampleProtect protect)
    ⟨hact.control, hact.notices⟩

theorem startRequest_portLaw : (startRequest s).PortLaw := by
  refine serve_portLaw_of_same h (State.SamePort.onService fun n f (t : State) => ?_)
  rcases startAct_cases n f t with he | ⟨sv, units, he⟩ <;> rw [he]
  · exact .refl t
  · exact ⟨rfl, rfl⟩

theorem haltRequest_portLaw : (haltRequest s).PortLaw :=
  serve_service_portLaw h haltAct_cases

theorem bypassRequest_portLaw : (bypassRequest s).PortLaw :=
  serve_service_portLaw h bypassAct_cases

theorem markRequest_portLaw : (markRequest s).PortLaw :=
  serve_service_portLaw h markAct_cases

theorem selectRequest_portLaw : (selectRequest s).PortLaw :=
  serve_service_portLaw h selectAct_cases

theorem portsRequest_portLaw : (portsRequest s).PortLaw := by
  refine serve_portLaw_of_same h fun f t => ?_
  rcases portsAct_cases f t with he | ⟨p, limit, -, -, he⟩ <;> rw [he]
  · exact .refl t
  · exact ⟨t.setReceiver_control p _, t.setReceiver_notices p _⟩

theorem notifyRequest_portLaw : (notifyRequest s).PortLaw := by
  refine serve_portLaw h (fun f t => by rw [notifyAct_eq]) fun f t ht => ?_
  rcases notifyAct_notices f t with he | ⟨mask, he⟩ <;> rw [he]
  · exact ht
  · exact ht.masked mask

/-! ### Store and resets -/

theorem storeRequest_portLaw (protect : PinLevel) : (storeRequest protect s).PortLaw := by
  unfold storeRequest
  split
  · exact h
  · next f hs =>
    have hsampled : (s.dequeued.sampleProtect protect).PortLaw := h.dequeued.of_same ⟨rfl, rfl⟩
    have hroom := State.replyCount_of_servable hs
    dsimp only
    split
    · exact hsampled.requestAnswered hroom _ _
    · exact ⟨hsampled.control, hsampled.notices⟩

theorem storeComplete_portLaw (good : Bool) : (storeComplete good s).PortLaw := by
  unfold storeComplete
  split
  · split
    · exact State.PortLaw.kick ⟨h.control.storeAnswered _, h.notices⟩
    · exact h
  · exact h

theorem resetRequest_portLaw : (resetRequest s).PortLaw := by
  unfold resetRequest
  split
  · exact h
  next f hs =>
  have hroom := State.replyCount_of_servable hs
  have hrefuse : ∀ frame, (s.dequeued.appendReply frame .ordinary).kick.PortLaw :=
    fun frame => h.dequeued.requestAnswered hroom frame _
  dsimp only
  split
  · exact hrefuse _
  split
  · split
    · exact hrefuse _
    · split
      · exact hrefuse _
      · exact State.PortLaw.kick ⟨h.dequeued.control.requestAnswered hroom _, h.notices⟩
  · exact hrefuse _

theorem State.PortLaw.autostart (n : ServiceIndex) : (s.autostart n).PortLaw := by
  unfold State.autostart
  dsimp only
  split
  · split
    · refine State.PortLaw.raise ?_ _ _
      exact h.of_same ⟨rfl, rfl⟩
    · exact h.raise _ _
  · exact h

theorem State.PortLaw.autostarted (cause : ResetCause) : (s.autostarted cause).PortLaw :=
  have hall : ((List.finRange 16).foldl State.autostart s).PortLaw :=
    List.foldlRecOn _ _ h fun _ ht n _ => ht.autostart n
  (hall.raise _ _).kick

end

/-- A part with its control port as after a reset and no notice waiting (R175, R183). -/
theorem State.portLaw_of_cleared {s : State} (hc : s.control = ControlPort.afterReset) (hn : s.notices.entries = []) :
    s.PortLaw :=
  ⟨hc ▸ ControlPort.lawful_afterReset, by rw [Notices.Lawful, hn]; exact List.nodup_nil⟩

theorem State.silenced_portLaw (s : State) : s.silenced.PortLaw :=
  State.portLaw_of_cleared rfl rfl

theorem State.startUp_portLaw (s : State) (cause : ResetCause) (rate1 rate0 : PinLevel) (age : Option Rat) :
    (s.startUp cause rate1 rate0 age).PortLaw := by
  rw [State.startUp, State.resetEnded_eq]
  exact (State.portLaw_of_cleared rfl (by rw [State.reloaded_eq])).autostarted cause

section
variable {s : State} (h : s.PortLaw)
include h

theorem resetRequestActs_portLaw : (resetRequestActs s).PortLaw := by
  rcases resetRequestActs_cases s with he | ⟨option, he⟩ <;> rw [he]
  · exact h
  · have hentries : (s.configured option).notices.entries = [] := by rw [State.configured_eq]
    exact (State.portLaw_of_cleared (s := (s.configured option).clearedFor .request) rfl hentries).autostarted _

theorem powerOn_portLaw (rate1 rate0 : PinLevel) (age : Option Rat) : (powerOn rate1 rate0 age s).PortLaw := by
  unfold powerOn
  split
  · exact h
  · dsimp only
    split
    · exact h.of_same ⟨rfl, rfl⟩
    · exact State.startUp_portLaw ..

theorem resetPinRelease_portLaw (rate1 rate0 : PinLevel) (age : Option Rat) :
    (resetPinRelease rate1 rate0 age s).PortLaw := by
  unfold resetPinRelease
  split
  · dsimp only
    split
    · exact State.startUp_portLaw ..
    · exact h.of_same ⟨rfl, rfl⟩
  · exact h

/-! ### Every command -/

theorem exec_portLaw (c : Instr) : ∃ t, exec c s = .next t ∧ t.PortLaw := by
  cases c with
  | outputFrame => exact ⟨_, rfl, outputFrame_portLaw h⟩
  | missingEdge => exact ⟨_, rfl, missingEdge_portLaw h⟩
  | clockToInternal => exact ⟨_, rfl, clockToInternal_portLaw h⟩
  | refclkEdge before since => exact ⟨_, rfl, refclkEdge_portLaw h before since⟩
  | clockToReference => exact ⟨_, rfl, clockToReference_portLaw h⟩
  | searchFramePosition p bits => exact ⟨_, rfl, searchFramePosition_portLaw h p bits⟩
  | portLock p body => exact ⟨_, rfl, portLock_portLaw h p body⟩
  | linkFrameArrival p line => exact ⟨_, rfl, linkFrameArrival_portLaw h p line⟩
  | portLossOfSync p => exact ⟨_, rfl, portLossOfSync_portLaw h p⟩
  | subblockEnd order => exact ⟨_, rfl, subblockEnd_portLaw h order⟩
  | controlFrameComplete => exact ⟨_, rfl, controlFrameComplete_portLaw h⟩
  | lengthFault => exact ⟨_, rfl, lengthFault_portLaw h⟩
  | frameTimeout => exact ⟨_, rfl, frameTimeout_portLaw h⟩
  | unknownKind => exact ⟨_, rfl, unknownKind_portLaw h⟩
  | identify => exact ⟨_, rfl, identifyRequest_portLaw h⟩
  | query protect => exact ⟨_, rfl, queryRequest_portLaw h protect⟩
  | peek => exact ⟨_, rfl, peekRequest_portLaw h⟩
  | map => exact ⟨_, rfl, mapRequest_portLaw h⟩
  | unmap => exact ⟨_, rfl, unmapRequest_portLaw h⟩
  | profile protect => exact ⟨_, rfl, profileRequest_portLaw h protect⟩
  | start => exact ⟨_, rfl, startRequest_portLaw h⟩
  | halt => exact ⟨_, rfl, haltRequest_portLaw h⟩
  | bypass => exact ⟨_, rfl, bypassRequest_portLaw h⟩
  | mark => exact ⟨_, rfl, markRequest_portLaw h⟩
  | select => exact ⟨_, rfl, selectRequest_portLaw h⟩
  | ports => exact ⟨_, rfl, portsRequest_portLaw h⟩
  | notify => exact ⟨_, rfl, notifyRequest_portLaw h⟩
  | store protect => exact ⟨_, rfl, storeRequest_portLaw h protect⟩
  | storeComplete good => exact ⟨_, rfl, storeComplete_portLaw h good⟩
  | reset => exact ⟨_, rfl, resetRequest_portLaw h⟩
  | resetRequestActs => exact ⟨_, rfl, resetRequestActs_portLaw h⟩
  | transmitFrameEnd => exact ⟨_, rfl, transmitFrameEnd_portLaw h⟩
  | powerOn rate1 rate0 age => exact ⟨_, rfl, powerOn_portLaw h rate1 rate0 age⟩
  | resetPinAssert => exact ⟨_, rfl, s.silenced_portLaw.of_same ⟨rfl, rfl⟩⟩
  | resetPinRelease rate1 rate0 age => exact ⟨_, rfl, resetPinRelease_portLaw h rate1 rate0 age⟩
  | controlByteReceived value stop => exact ⟨_, rfl, controlByteReceived_portLaw h value stop⟩
  | lossOfPower => exact ⟨_, rfl, s.silenced_portLaw.of_same ⟨rfl, rfl⟩⟩

end

/-- Settles O60: `exec_portLaw` for the command at the front of the queue. -/
theorem controlAndNoticeLawsKept : Obligations.ControlAndNoticeLawsKept := by
  intro s t hc hn hstep
  obtain ⟨hcontrol, hnotices⟩ : t.PortLaw :=
    step_keeps (P := State.PortLaw) (fun _ _ hs => hs.of_same ⟨rfl, rfl⟩) (fun c _ hs => exec_portLaw hs c)
      ⟨hc, hn⟩ hstep
  exact ⟨hcontrol, hnotices⟩

end Sys2Proof.Machine
end

section
/-! PROOF. The requests to the device that need no service: UNKNOWN_KIND, IDENTIFY and RESET (R167, R168, R171, R188); O27 and
O44. -/

namespace Sys2Proof.Machine

/-- A request that has left the inbox, with its reply appended and the transmitter's choice after it (R167, R170). -/
theorem State.dequeued_answered {t : State} {f : ControlFrame} {rest : List ControlFrame} (ho : t.operating = true)
    (hp : ∀ o, t.control.resetPhase ≠ .due o) (hi : t.control.inbox = f :: rest) (frame : ControlFrame)
    (mark : ReplyMark) : (t.dequeued.appendReply frame mark).kick = t.answered rest frame mark := by
  have hrest : t.dequeued.control.inbox = rest := congrArg List.tail hi
  rw [State.kick_appendReply (t.dequeued_operating.trans ho) hp, hrest]
  rfl

/-! ### Unknown kinds and Identify (R167, R171) -/

theorem unknownKind_answered {s : State} {f : ControlFrame} {rest : List ControlFrame} (h : Serving s f.kind f rest)
    (hk : f.kind ∉ catalogue) : unknownKind s = s.answered rest (replyTo f .unknown []) .ordinary := by
  obtain ⟨ho, hp, -, hi, -⟩ := id h
  rw [unknownKind, State.servable_of_serving h (by simpa using hk)]
  exact State.dequeued_answered ho (by simp [hp]) hi _ _

section
variable {f : ControlFrame} (s : State)

theorem identifyAct_of_other_unit (hu : f.unit ≠ 0xFF) : identifyAct f s = (s, Answer.plain .unit) :=
  if_pos hu

theorem identifyAct_of_length (hu : f.unit = 0xFF) (hp : f.payload ≠ []) : identifyAct f s = (s, Answer.length f) :=
  (if_neg (not_not.mpr hu)).trans (if_pos hp)

theorem identifyAct_of_device (hu : f.unit = 0xFF) (hp : f.payload = []) :
    identifyAct f s =
      (s, Answer.ok [0x0B, 0x5A, 0x00, 0x16, 0x01, byteOf Config.capacity, StoreStatus.code s.storeStatus]) :=
  (if_neg (not_not.mpr hu)).trans (if_neg (not_not.mpr hp))

end

/-- Settles O27: `unknownKind_answered`, and one clause for each branch of `identifyAct`, served. -/
theorem unknownKindAndIdentify : Obligations.UnknownKindAndIdentify := by
  refine ⟨fun s f rest h hk => congrArg Host.Outcome.next (unknownKind_answered h hk), fun s f rest h => ?_⟩
  rw [exec_identify]
  by_cases hu : f.unit = 0xFF
  · rw [if_neg (not_not.mpr hu)]
    by_cases hp : f.payload = []
    · rw [if_neg (not_not.mpr hp)]
      exact congrArg Host.Outcome.next (serve_answered h (identifyAct_of_device _ hu hp) rfl rfl)
    · rw [if_pos hp]
      exact congrArg Host.Outcome.next (serve_answered h (identifyAct_of_length _ hu hp) rfl rfl)
  · rw [if_pos hu]
    exact congrArg Host.Outcome.next (serve_answered h (identifyAct_of_other_unit _ hu) rfl rfl)

/-! ### Reset (R188) -/

theorem resetOptionOf_eq_none {b : Byte} (h : 1 < b.toNat) : resetOptionOf b = none := by
  have h0 : b ≠ 0 := fun he => by simp [he] at h
  have h1 : b ≠ 1 := fun he => by simp [he] at h
  rw [resetOptionOf, if_neg h0, if_neg h1]

theorem resetOptionOf_eq_some {b : Byte} (h : b.toNat ≤ 1) :
    resetOptionOf b = some (if b = 0 then .keep else .reload) := by
  by_cases h0 : b = 0
  · rw [resetOptionOf, if_pos h0, if_pos h0]
  · have h1 : b = 1 := by bv_omega
    rw [resetOptionOf, if_neg h0, if_pos h1, if_neg h0]

/-- What Reset decides of a request: a refusal, or an option to reset by (R188). -/
def resetDecision (f : ControlFrame) (s : State) : Except Answer ResetOption :=
  if f.unit ≠ deviceUnit then .error (Answer.plain .unit)
  else
    match f.payload with
    | [b] =>
      match resetOptionOf b with
      | none => .error { status := .range, detail := [b] }
      | some option => if s.control.storeJob.isSome then .error (Answer.plain .busy) else .ok option
    | _ => .error (Answer.length f)

/-- A Reset waits for the reply of its request to be sent (R188). -/
def State.resetWaiting (s : State) (option : ResetOption) : State :=
  { s with control := { s.control with resetPhase := .waiting option } }

/-- Reset takes the request from the inbox, and its reply follows the decision. -/
theorem resetRequest_of_servable {s : State} {f : ControlFrame} (h : s.servable (· == 0x31) = some f) :
    resetRequest s =
      match resetDecision f s with
      | .error a => (s.dequeued.appendReply (replyTo f a.status a.detail) .ordinary).kick
      | .ok option => ((s.resetWaiting option).dequeued.appendReply (replyTo f .ok []) .reset).kick := by
  rw [resetRequest, h]
  unfold resetDecision
  dsimp only
  split
  · rfl
  cases f.payload with
  | nil => rfl
  | cons b tail =>
    cases tail with
    | cons c tail => rfl
    | nil =>
      dsimp only
      cases resetOptionOf b with
      | none => rfl
      | some option => cases s.control.storeJob <;> rfl

section
variable {s : State} {f : ControlFrame} {rest : List ControlFrame} (h : Serving s 0x31 f rest)
include h

theorem resetRequest_refused {a : Answer} (hd : resetDecision f s = .error a) :
    resetRequest s =
      s.answered rest { kind := 0xB1, tag := f.tag, unit := f.unit, payload := a.status.code :: a.detail } .ordinary := by
  obtain ⟨ho, hp, -, hi, hk⟩ := id h
  rw [resetRequest_of_servable (State.servable_of_serving h (by simp [hk])), hd]
  dsimp only
  rw [replyTo, hk]
  exact State.dequeued_answered ho (by simp [hp]) hi _ _

theorem resetRequest_accepted {option : ResetOption} (hd : resetDecision f s = .ok option) :
    resetRequest s =
      (s.resetWaiting option).answered rest { kind := 0xB1, tag := f.tag, unit := f.unit, payload := [0x00] } .reset := by
  obtain ⟨ho, -, -, hi, hk⟩ := id h
  rw [resetRequest_of_servable (State.servable_of_serving h (by simp [hk])), hd]
  dsimp only
  rw [replyTo, hk]
  exact State.dequeued_answered (t := s.resetWaiting option) ho (by simp [State.resetWaiting]) hi _ _

end

section
variable {f : ControlFrame} {s : State}

theorem resetDecision_of_other_unit (hu : f.unit ≠ 0xFF) : resetDecision f s = .error (Answer.plain .unit) :=
  if_pos hu

theorem resetDecision_of_length (hu : f.unit = 0xFF) (hl : f.payload.length ≠ 1) :
    resetDecision f s = .error (Answer.length f) := by
  refine (if_neg (not_not.mpr hu)).trans ?_
  split
  · next hp => simp [hp] at hl
  · rfl

variable {b : Byte} (hu : f.unit = 0xFF) (hp : f.payload = [b])
include hu hp

theorem resetDecision_of_range (hb : 1 < b.toNat) : resetDecision f s = .error { status := .range, detail := [b] } := by
  refine (if_neg (not_not.mpr hu)).trans ?_
  simp only [hp, resetOptionOf_eq_none hb]

theorem resetDecision_of_busy (hb : b.toNat ≤ 1) (hj : s.control.storeJob.isSome = true) :
    resetDecision f s = .error (Answer.plain .busy) := by
  refine (if_neg (not_not.mpr hu)).trans ?_
  simp only [hp, resetOptionOf_eq_some hb, if_pos hj]

theorem resetDecision_of_free (hb : b.toNat ≤ 1) (hj : s.control.storeJob = none) :
    resetDecision f s = .ok (if b = 0 then .keep else .reload) := by
  refine (if_neg (not_not.mpr hu)).trans ?_
  simp [hp, resetOptionOf_eq_some hb, hj]

end

/-- Serving stops while a Reset waits for its reply to be sent (R167). -/
theorem State.servable_of_waiting {s : State} {option : ResetOption} (h : s.control.resetPhase = .waiting option)
    (kinds : Byte → Bool) : s.servable kinds = none := by
  simp [State.servable, h]

namespace Settled

/-- Settles O44: one clause for each decision of `resetDecision`. -/
theorem resetRequest : Obligations.ResetRequest := by
  intro s f rest h
  rw [exec_reset]
  refine ⟨fun hu => ?unit, fun hu hl => ?length, fun b hu hp => ⟨fun hb => ?range, fun hb hj => ?busy, fun hb hj => ?ok⟩⟩
  case unit => exact congrArg Host.Outcome.next (resetRequest_refused h (resetDecision_of_other_unit hu))
  case length => exact congrArg Host.Outcome.next (resetRequest_refused h (resetDecision_of_length hu hl))
  case range => exact congrArg Host.Outcome.next (resetRequest_refused h (resetDecision_of_range hu hp hb))
  case busy => exact congrArg Host.Outcome.next (resetRequest_refused h (resetDecision_of_busy hu hp hb hj))
  case ok =>
    exact ⟨_, congrArg Host.Outcome.next (resetRequest_accepted h (resetDecision_of_free hu hp hb hj)), rfl,
      State.servable_of_waiting rfl⟩

end Settled

end Sys2Proof.Machine
end

section
/-! PROOF. QUERY of a service, a port and the device, and its refusals (R172, R173): O28. -/

namespace Sys2Proof.Machine

/-! ### The record of a unit (R172, R173) -/

section
variable {unit : Byte} (s : State)

theorem recordOf_of_service {n : ServiceIndex} (hu : unit = BitVec.ofNat 8 n.val) :
    recordOf unit s = some (serviceRecord (s.service n) s.portA.usable s.portB.usable) := by
  rw [recordOf, serviceOf_eq_some.mpr hu]

theorem recordOf_of_port {p : Port} (hu : unit = match p with | .a => 0xF0 | .b => 0xF1) :
    recordOf unit s = some (portRecord (s.receiver p)) := by
  subst hu
  cases p <;> rfl

theorem recordOf_of_device (hu : unit = 0xFF) : recordOf unit s = some (deviceRecord s) := by
  subst hu
  rfl

theorem recordOf_eq_none (hn : ∀ n : ServiceIndex, unit ≠ BitVec.ofNat 8 n.val) (ha : unit ≠ 0xF0) (hb : unit ≠ 0xF1)
    (hd : unit ≠ 0xFF) : recordOf unit s = none := by
  rw [recordOf, serviceOf_eq_none.mpr hn, portOf_eq_none ha hb]
  exact if_neg hd

theorem recordOf_isSome
    (hu : (∃ n : ServiceIndex, unit = BitVec.ofNat 8 n.val) ∨ unit = 0xF0 ∨ unit = 0xF1 ∨ unit = 0xFF) :
    ∃ record, recordOf unit s = some record := by
  rcases hu with ⟨n, hn⟩ | ha | hb | hd
  · exact ⟨_, recordOf_of_service s hn⟩
  · exact ⟨_, recordOf_of_port (p := .a) s ha⟩
  · exact ⟨_, recordOf_of_port (p := .b) s hb⟩
  · exact ⟨_, recordOf_of_device s hd⟩

end

/-! ### The rule of Query (R172) -/

section
variable {f : ControlFrame} {s : State} {record : List Byte}

theorem queryAct_of_record (h : recordOf f.unit s = some record) (hp : f.payload = []) :
    queryAct f s = (s, Answer.ok record) := by
  simp [queryAct, h, hp]

theorem queryAct_of_length (h : recordOf f.unit s = some record) (hp : f.payload ≠ []) :
    queryAct f s = (s, Answer.length f) := by
  simp [queryAct, h, hp]

theorem queryAct_of_unit (h : recordOf f.unit s = none) : queryAct f s = (s, Answer.plain .unit) := by
  simp [queryAct, h]

end

/-- A Query reads the level of PROTECT and changes nothing else, and is answered by its rule (R168, log 5). -/
theorem exec_query_of_serving {s : State} {f : ControlFrame} {rest : List ControlFrame} {protect : PinLevel} {a : Answer}
    (h : Serving s 0x02 f rest)
    (hact : queryAct f (s.sampleProtect protect).dequeued = ((s.sampleProtect protect).dequeued, a)) :
    exec (.query protect) s =
      .next
        ((s.sampleProtect protect).answered rest
          { kind := 0x82, tag := f.tag, unit := f.unit, payload := a.status.code :: a.detail } .ordinary) :=
  congrArg Host.Outcome.next (serve_answered h hact (s.sampleProtect_control _) (s.sampleProtect_operating _))

namespace Settled

/-- Settles O28: each clause is the record of a unit by `recordOf`, or one refusal of `queryAct`, served. -/
theorem queryRequest : Obligations.QueryRequest := by
  intro s f rest protect h
  refine ⟨fun n sv hu hs hp => ?service, fun p r hu hr hp => ?port, fun hu hp => ?device, fun hn ha hb hd => ?unit,
    fun hu hp => ?length⟩
  case service =>
    subst hs
    exact exec_query_of_serving h (queryAct_of_record (recordOf_of_service _ hu) hp)
  case port =>
    subst hr
    have hact := queryAct_of_record (recordOf_of_port (s.sampleProtect protect).dequeued hu) hp
    rw [State.dequeued_receiver, State.sampleProtect_receiver] at hact
    exact exec_query_of_serving h hact
  case device => exact exec_query_of_serving h (queryAct_of_record (recordOf_of_device _ hu) hp)
  case unit => exact exec_query_of_serving h (queryAct_of_unit (recordOf_eq_none _ hn ha hb hd))
  case length =>
    obtain ⟨record, hrecord⟩ := recordOf_isSome (s.sampleProtect protect).dequeued hu
    exact exec_query_of_serving h (queryAct_of_length hrecord hp)

end Settled

end Sys2Proof.Machine
end

section
/-! PROOF. The receiving side of the control port (R162 to R166): single bytes, the ends of a frame, and a whole frame sent byte
by byte; O50 and O51. -/

namespace Sys2Proof.Machine

/-! ### The bytes of a frame in progress (R163, R164) -/

/-- A frame in progress that waits for a further byte: its LEN has not come, or is 240 or less and more bytes are due. -/
def FrameOpen (bytes : List Byte) : Prop :=
  ∀ len, bytes.head? = some len → len.toNat ≤ 240 ∧ bytes.length < 6 + len.toNat

theorem FrameOpen.not_complete {bytes : List Byte} (h : FrameOpen bytes) : frameComplete bytes = false := by
  cases bytes with
  | nil => rfl
  | cons len tail =>
    obtain ⟨-, hlt⟩ := h len rfl
    have hdue : ¬6 + len.toNat ≤ (len :: tail).length := by omega
    simp [frameComplete, lenOf, -List.length_cons, hdue]

theorem FrameOpen.not_faulty {bytes : List Byte} (h : FrameOpen bytes) : lengthFaulty bytes = false := by
  cases bytes with
  | nil => rfl
  | cons len tail =>
    obtain ⟨hle, -⟩ := h len rfl
    simpa [lengthFaulty, lenOf] using hle

theorem lengthFaulty_of_head {bytes : List Byte} {len : Byte} (h : bytes.head? = some len) (hl : 240 < len.toNat) :
    lengthFaulty bytes = true := by
  simp [lengthFaulty, lenOf, h, hl]

theorem frameComplete_of_head {bytes : List Byte} {len : Byte} (h : bytes.head? = some len) (hl : len.toNat ≤ 240)
    (hb : 6 + len.toNat ≤ bytes.length) : frameComplete bytes = true := by
  simp [frameComplete, lenOf, h, hl, hb]

theorem frameIntact_iff {bytes : List Byte} : frameIntact bytes = true ↔ crc16 bytes = 0 := by
  simp [frameIntact]

/-! ### One byte (R162, R164) -/

section
variable {s : State} (b : Byte)

/-- A byte whose stop bit is low is discarded (R162). -/
theorem controlByteReceived_stopLow : controlByteReceived b .low s = s :=
  if_neg (by simp)

variable (ho : s.operating = true)
include ho

theorem controlByteReceived_hunt (hr : s.control.receiver = .hunt) :
    controlByteReceived b .high s =
      if b = 0xA5 ∧ replyCount s.control.replies ≤ 7 then
        { s with control := { s.control with receiver := .inFrame [] } }
      else s := by
  rw [controlByteReceived, if_pos (by simp [ho]), hr, ByteReceiver.take]
  split
  · rfl
  · rw [← hr]

theorem controlByteReceived_open {bytes : List Byte} (hr : s.control.receiver = .inFrame bytes) (h : FrameOpen bytes) :
    controlByteReceived b .high s = { s with control := { s.control with receiver := .inFrame (bytes ++ [b]) } } := by
  rw [controlByteReceived, if_pos (by simp [ho]), hr]
  simp [ByteReceiver.take, h.not_complete, h.not_faulty]

end

/-! ### The ends of a frame in progress (R164 to R166) -/

section
variable {s : State} {bytes : List Byte} (ho : s.operating = true) (hr : s.control.receiver = .inFrame bytes)
include ho hr

theorem frameTimeout_of_open (h : FrameOpen bytes) : frameTimeout s = s.frameDiscarded 1 := by
  simp [frameTimeout, hr, ho, h.not_complete, h.not_faulty]

theorem lengthFault_of_faulty (h : lengthFaulty bytes = true) : lengthFault s = s.frameDiscarded 2 := by
  simp [lengthFault, hr, ho, h]

theorem controlFrameComplete_of_complete (h : frameComplete bytes = true) :
    controlFrameComplete s = if crc16 bytes = 0 then s.handOver (frameOf bytes) else s.frameDiscarded 3 := by
  simp only [controlFrameComplete, hr, ho, h, Bool.and_self, if_true, frameIntact_iff]

end

/-- The frame that a complete run of bytes spells (9.2). -/
theorem frameOf_cons (len kind tag unit : Byte) (tail : List Byte) :
    frameOf (len :: kind :: tag :: unit :: tail) = { kind, tag, unit, payload := tail.take len.toNat } :=
  rfl

/-- Settles O50: one clause for each branch of the receiving commands. -/
theorem controlBytesAndFrames : Obligations.ControlBytesAndFrames := by
  refine ⟨fun s b ho => ⟨?stopLow, fun hr => ?hunt, fun bytes hr hopen => ?byte⟩, fun s bytes ho hr => ?frame⟩
  case stopLow => exact congrArg Host.Outcome.next (controlByteReceived_stopLow b)
  case hunt => exact congrArg Host.Outcome.next (controlByteReceived_hunt b ho hr)
  case byte => exact congrArg Host.Outcome.next (controlByteReceived_open b ho hr hopen)
  case frame =>
    refine ⟨fun hopen => ?timeout, fun len hl hlong => ?length, fun len kind tag unit tail hb hle htail => ?complete⟩
    case timeout => exact congrArg Host.Outcome.next (frameTimeout_of_open ho hr hopen)
    case length => exact congrArg Host.Outcome.next (lengthFault_of_faulty ho hr (lengthFaulty_of_head hl hlong))
    case complete =>
      have hcomplete : frameComplete bytes = true := by
        subst hb
        exact frameComplete_of_head rfl hle (by simp only [List.length_cons]; omega)
      rw [exec_controlFrameComplete, controlFrameComplete_of_complete ho hr hcomplete]
      refine ⟨fun hcrc => ?check, fun hcrc hroom => ?inbox, fun hcrc hfull => ?full⟩
      case check => rw [if_neg hcrc]; rfl
      case inbox => rw [if_pos hcrc, hb, frameOf_cons, State.handOver, if_pos (Nat.lt_succ_of_le hroom)]
      case full => rw [if_pos hcrc, hb, frameOf_cons, State.handOver, if_neg (Nat.not_lt.mpr hfull)]; rfl

/-! ### A frame byte by byte (R163) -/

/-- While the frame is open before each of them, all bytes are taken. -/
theorem State.afterBytes_open {s : State} {bytes : List Byte} (ho : s.operating = true)
    (hr : s.control.receiver = .inFrame bytes) (more : List Byte)
    (hopen : ∀ len, (bytes ++ more).head? = some len → len.toNat ≤ 240 ∧ (bytes ++ more).length ≤ 6 + len.toNat) :
    s.afterBytes more = { s with control := { s.control with receiver := .inFrame (bytes ++ more) } } := by
  induction more generalizing s bytes with
  | nil =>
    rw [List.append_nil, ← hr]
    rfl
  | cons b more ih =>
    have hnow : FrameOpen bytes := by
      intro len hlen
      obtain ⟨hle, hlt⟩ := hopen len (by rw [List.head?_append, hlen]; rfl)
      rw [List.length_append, List.length_cons] at hlt
      exact ⟨hle, by omega⟩
    rw [List.append_cons] at hopen
    have hrest := ih (s := { s with control := { s.control with receiver := .inFrame (bytes ++ [b]) } }) ho rfl hopen
    rw [List.append_cons, State.afterBytes, List.foldl_cons, controlByteReceived_open b ho hr hnow]
    exact hrest

/-- Two bytes carry a check word most significant bit first (9.2). -/
theorem bitsMsb_halves (check : BitVec 16) :
    bitsMsb (check.extractLsb' 8 8) ++ bitsMsb (check.extractLsb' 0 8) = bitsMsb check := by
  have hrange : List.range 16 = List.range 8 ++ (List.range 8).map (8 + ·) := rfl
  have hsplit : bitsMsb check = (List.range 8).map check.getMsbD ++ (List.range 8).map fun i => check.getMsbD (8 + i) := by
    rw [bitsMsb, hrange, List.map_append, List.map_map]
    rfl
  rw [hsplit]
  unfold bitsMsb
  congr 1 <;> refine List.map_congr_left fun i hi => ?_ <;> have hlt := List.mem_range.mp hi
  · have hbit : 8 + (7 - i) = 15 - i := by omega
    simp [BitVec.getMsbD, hlt, hbit, show 7 - i < 8 by omega, show i < 16 by omega]
  · have hbit : 15 - (8 + i) = 7 - i := by omega
    simp [BitVec.getMsbD, hlt, hbit, show 7 - i < 8 by omega, show 8 + i < 16 by omega]

/-- The bytes of a frame behind its start byte. -/
def ControlFrame.checked (f : ControlFrame) : List Byte :=
  f.covered ++ [(crc16 f.covered).extractLsb' 8 8, (crc16 f.covered).extractLsb' 0 8]

theorem ControlFrame.checked_cons (f : ControlFrame) :
    f.checked =
      byteOf f.payload.length :: f.kind :: f.tag :: f.unit ::
        (f.payload ++ [(crc16 f.covered).extractLsb' 8 8, (crc16 f.covered).extractLsb' 0 8]) :=
  rfl

theorem ControlFrame.bytes_eq (f : ControlFrame) : f.bytes = 0xA5 :: f.checked := rfl

/-- The receiver's test passes on a frame with its check (R163). -/
theorem ControlFrame.crc16_checked (f : ControlFrame) : crc16 f.checked = 0 := by
  rw [ControlFrame.checked, crc16, List.flatMap_append]
  simp only [List.flatMap_cons, List.flatMap_nil, List.append_nil, bitsMsb_halves]
  rw [crcBits_append]
  exact crcBits_own _ _

section
variable {f : ControlFrame} (h : f.payload.length ≤ 240)
include h

theorem ControlFrame.toNat_len : (byteOf f.payload.length).toNat = f.payload.length := by
  rw [byteOf, BitVec.toNat_ofNat]
  omega

theorem ControlFrame.checked_length : f.checked.length = 6 + (byteOf f.payload.length).toNat := by
  rw [ControlFrame.toNat_len h]
  simp [ControlFrame.checked, ControlFrame.covered]
  omega

theorem ControlFrame.frameOf_checked : frameOf f.checked = f := by
  have hpayload : (f.payload ++ [(crc16 f.covered).extractLsb' 8 8, (crc16 f.covered).extractLsb' 0 8]).take
      (byteOf f.payload.length).toNat = f.payload := by
    rw [ControlFrame.toNat_len h, List.take_left']
    rfl
  rw [ControlFrame.checked_cons, frameOf_cons, hpayload]

/-- The whole frame stands in a receiver that hunted and had room for its reply (R164). -/
theorem State.afterBytes_frame {s : State} (ho : s.operating = true) (hr : s.control.receiver = .hunt)
    (hroom : replyCount s.control.replies ≤ 7) :
    s.afterBytes f.bytes = { s with control := { s.control with receiver := .inFrame f.checked } } := by
  have hlen := ControlFrame.checked_length h
  have hle := ControlFrame.toNat_len h
  have hopen : ∀ len, ([] ++ f.checked).head? = some len →
      len.toNat ≤ 240 ∧ ([] ++ f.checked).length ≤ 6 + len.toNat := by
    rintro len ⟨⟩
    exact ⟨hle.trans_le h, hlen.le⟩
  rw [ControlFrame.bytes_eq, State.afterBytes, List.foldl_cons, controlByteReceived_hunt _ ho hr, if_pos ⟨rfl, hroom⟩]
  exact State.afterBytes_open (s := { s with control := { s.control with receiver := .inFrame [] } }) ho rfl _ hopen

end

/-- Settles O51: the bytes all stand in the receiver, their check passes, and they spell the frame. -/
theorem framesArriveAsSent : Obligations.FramesArriveAsSent := by
  intro s f ho hr hroom hinbox hpay
  have hcomplete : frameComplete f.checked = true :=
    frameComplete_of_head rfl ((ControlFrame.toNat_len hpay).trans_le hpay) (ControlFrame.checked_length hpay).ge
  have harrived := controlFrameComplete_of_complete
    (s := { s with control := { s.control with receiver := .inFrame f.checked } }) ho rfl hcomplete
  rw [State.afterBytes_frame hpay ho hr hroom, exec_controlFrameComplete, harrived, if_pos f.crc16_checked,
    ControlFrame.frameOf_checked hpay, State.handOver, if_pos (Nat.lt_succ_of_le hinbox), ← hr]

end Sys2Proof.Machine
end

section
/-! PROOF. The sending side of the control port (R169, R170, R180, R182, R188): the end of a transmitted frame, and what a free
transmitter takes next; O52. -/

namespace Sys2Proof.Machine

/-! ### The end of a reply frame (R169, R188) -/

theorem ControlPort.replyGone_cons {c : ControlPort} {r : Reply} {rest : List Reply} (h : c.replies = r :: rest) :
    c.replyGone =
      { c with
        replies := rest, sending := .idle
        resetPhase := if r.mark = .reset then c.resetPhase.replySent else c.resetPhase } := by
  rw [ControlPort.replyGone, h]

/-- A reply that is no accepted Reset's leaves the reset phase alone. -/
theorem ControlPort.replyGone_of_other {c : ControlPort} {r : Reply} {rest : List Reply} (h : c.replies = r :: rest)
    (hm : r.mark ≠ .reset ∨ c.resetPhase = .none) : c.replyGone = { c with replies := rest, sending := .idle } := by
  have hphase : (if r.mark = .reset then c.resetPhase.replySent else c.resetPhase) = c.resetPhase := by
    rcases hm with hm | hp
    · exact if_neg hm
    · rw [hp]
      exact ite_self _
  rw [ControlPort.replyGone_cons h, hphase]

/-- With the reply of an accepted Reset gone, the reset is due. -/
theorem ControlPort.replyGone_of_reset {c : ControlPort} {r : Reply} {rest : List Reply} {option : ResetOption}
    (h : c.replies = r :: rest) (hm : r.mark = .reset) (hp : c.resetPhase = .waiting option) :
    c.replyGone = { c with replies := rest, sending := .idle, resetPhase := .due option } := by
  rw [ControlPort.replyGone_cons h, if_pos hm, hp]
  rfl

/-- While a reset is due the transmitter begins nothing (log 17). -/
theorem State.kick_of_due {s : State} {option : ResetOption} (h : s.control.resetPhase = .due option) : s.kick = s := by
  unfold State.kick
  rw [h]
  split
  · rfl
  · cases s.control.sending <;> rfl

/-! ### The end of a notice frame (R180) -/

theorem Notices.frameDone_of_unsent {ns : Notices} (h : ∀ x ∈ ns.entries, x.inFrame = none) : ns.frameDone = ns := by
  have hkept : ns.entries.filterMap NoticeEntry.afterFrame = [] :=
    List.filterMap_eq_nil_iff.mpr fun x hx => NoticeEntry.afterFrame_of_none (h x hx)
  have hothers : ns.entries.filter (fun e => e.inFrame.isNone) = ns.entries :=
    List.filter_eq_self.mpr fun x hx => by rw [h x hx]; rfl
  rw [Notices.frameDone_eq, hkept, hothers, List.append_nil]

/-- The entry at the front, whose frame has been sent, goes, or moves to the end with its raises during the frame. -/
theorem Notices.frameDone_of_sent {ns : Notices} {e : NoticeEntry} {rest : List NoticeEntry} {during : FrameRaises}
    (h : ns.entries = e :: rest) (he : e.inFrame = some during) (hrest : ∀ x ∈ rest, x.inFrame = none) :
    ns.frameDone =
      { ns with
        entries :=
          rest ++
            if during.raises = 0 then []
            else
              [{ e with
                  count := during.raises, firstRaised := during.first.getD e.firstRaised, inFrame := none }] } := by
  have hkept : rest.filterMap NoticeEntry.afterFrame = [] :=
    List.filterMap_eq_nil_iff.mpr fun x hx => NoticeEntry.afterFrame_of_none (hrest x hx)
  have hothers : rest.filter (fun x => x.inFrame.isNone) = rest :=
    List.filter_eq_self.mpr fun x hx => by rw [hrest x hx]; rfl
  rw [Notices.frameDone_eq, h, List.filter_cons_of_neg (by simp [he]), hothers]
  by_cases hr : during.raises = 0
  · have hgone := (NoticeEntry.afterFrame_of_sent he).trans (if_pos hr)
    rw [List.filterMap_cons_none hgone, hkept, if_pos hr]
  · have hmoved := (NoticeEntry.afterFrame_of_sent he).trans (if_neg hr)
    rw [List.filterMap_cons_some hmoved, hkept, if_neg hr]

/-! ### TRANSMIT_FRAME_END (R170) -/

section
variable {s : State} {f : ControlFrame} (ho : s.operating = true)
include ho

theorem transmitFrameEnd_of_reply (h : s.control.sending = .reply f) :
    transmitFrameEnd s = { s with control := s.control.replyGone }.kick := by
  rw [transmitFrameEnd, if_pos ho, h]

theorem transmitFrameEnd_of_notice (h : s.control.sending = .notice f) :
    transmitFrameEnd s =
      { s with control := { s.control with sending := .idle }, notices := s.notices.frameDone }.kick := by
  rw [transmitFrameEnd, if_pos ho, h]

end

/-- Settles O52: the ends of a reply frame and of a notice frame, and the cases of `State.kick`. -/
theorem transmitterTakesNext : Obligations.TransmitterTakesNext := by
  intro s ho
  refine ⟨fun f r rest hs hr hm => ?reply, fun f r rest option hs hr hm hp => ?reset,
    fun f e rest during hs he hin hrest => ?sent, fun f hs hnone => ?removed,
    fun hs hp => ⟨fun r rest hr => ?nextReply, fun hr he => ?nothing, fun e rest hr he => ?nextNotice⟩, fun hs => ?busy⟩
  case reply =>
    rw [exec_transmitFrameEnd, transmitFrameEnd_of_reply ho hs, ControlPort.replyGone_of_other hr hm]
  case reset =>
    rw [exec_transmitFrameEnd, transmitFrameEnd_of_reply ho hs, ControlPort.replyGone_of_reset hr hm hp,
      State.kick_of_due rfl]
  case sent =>
    rw [exec_transmitFrameEnd, transmitFrameEnd_of_notice ho hs, Notices.frameDone_of_sent he hin hrest]
  case removed =>
    rw [exec_transmitFrameEnd, transmitFrameEnd_of_notice ho hs, Notices.frameDone_of_unsent hnone]
  case nextReply => exact State.kick_reply ho hs hp hr
  case nothing => exact State.kick_nothing hr he
  case nextNotice => exact State.kick_notice ho hs hp hr he
  case busy => exact State.kick_of_busy hs

end Sys2Proof.Machine
end

section
/-! PROOF. A raise acts on the notice set (R177), and ATTN shows whether a notice waits (R181): O53. -/

namespace Sys2Proof.Machine

/-- While the part operates, ATTN is low exactly when a notice waits (R181). -/
theorem State.attn_low_iff {s : State} (ho : s.operating = true) : s.attn = .low ↔ s.notices.entries ≠ [] := by
  constructor
  · intro hlow hnone
    rw [State.attn_of_no_entries hnone] at hlow
    exact absurd hlow (by decide)
  · intro hwaits
    have hcond : (s.operating && !s.notices.entries.isEmpty) = true := by simp [ho, hwaits]
    exact if_pos hcond

/-! ### A waiting entry that is raised again (R176, R177) -/

/-- Without its frame in transmission an entry keeps no raises of a frame. -/
theorem NoticeEntry.raisedAgain_of_unsent {e : NoticeEntry} (h : e.inFrame = none) (d : Detail) (w : Word32) :
    e.raisedAgain d w = { e with detail := d, count := min (e.count + 1) 255, inFrame := none } := by
  rw [NoticeEntry.raisedAgain, h]
  rfl

/-- While its frame is being sent the raises are also counted for the frame, which keeps the stamp of the first. -/
theorem NoticeEntry.raisedAgain_of_sent {e : NoticeEntry} {during : FrameRaises} (h : e.inFrame = some during)
    (d : Detail) (w : Word32) :
    e.raisedAgain d w =
      { e with
        detail := d
        count := min (e.count + 1) 255
        inFrame := some { raises := min (during.raises + 1) 255, first := some (during.first.getD w) } } := by
  rw [NoticeEntry.raisedAgain, h]
  cases hfirst : during.first with
  | none => simp only [Option.map_some, hfirst, satInc, Option.getD_none]
  | some first => simp only [Option.map_some, hfirst, satInc, Option.getD_some]

/-! ### The notice set under a raise (R177) -/

section
variable {ns : Notices} {o : Origin} {d : Detail} (hm : ns.mask.getLsbD (NoticeKind.code d.kind) = true)
include hm

/-- A pair that does not wait comes last in the set. -/
theorem Notices.raise_of_new (hnew : ∀ e ∈ ns.entries, e.pair ≠ (o, d.kind)) (w : Word32) :
    ns.raise o d w =
      { ns with
        entries := ns.entries ++ [{ origin := o, detail := d, firstRaised := w, count := 1, inFrame := none }] } := by
  have hany : ¬ ns.entries.any (NoticeEntry.isFor o d.kind) = true := by
    rw [List.any_eq_true]
    rintro ⟨e, he, hfor⟩
    exact hnew e he (NoticeEntry.isFor_iff.mp hfor)
  rw [Notices.raise, Notices.enabled, hm, if_neg (by decide), if_neg hany]

/-- A pair that waits is raised again where it stands. -/
theorem Notices.raise_of_waiting (hw : ∃ e ∈ ns.entries, e.pair = (o, d.kind)) (w : Word32) :
    ns.raise o d w =
      { ns with
        entries := ns.entries.map fun e => if e.isFor o d.kind then e.raisedAgain d w else e } := by
  have hany : ns.entries.any (NoticeEntry.isFor o d.kind) = true := by
    obtain ⟨e, he, hp⟩ := hw
    exact List.any_eq_true.mpr ⟨e, he, NoticeEntry.isFor_iff.mpr hp⟩
  rw [Notices.raise, Notices.enabled, hm, if_neg (by decide), if_pos hany]

end

/-- In a lawful set no other entry stands for the pair of an entry. -/
theorem Notices.Lawful.pair_ne_of_split {ns : Notices} (h : ns.Lawful) {before after : List NoticeEntry} {e : NoticeEntry}
    (hs : ns.entries = before ++ e :: after) : ∀ x ∈ before ++ after, x.pair ≠ e.pair := by
  rw [Notices.Lawful, hs, (List.perm_middle.map _).nodup_iff, List.map_cons, List.nodup_cons] at h
  obtain ⟨hunique, -⟩ := h
  intro x hx hp
  exact hunique (List.mem_map.mpr ⟨x, hx, hp⟩)

/-- Entries of other pairs stay as they are when a pair is raised again. -/
theorem map_raisedAgain_of_other {entries : List NoticeEntry} {o : Origin} {d : Detail} (w : Word32)
    (h : ∀ x ∈ entries, x.pair ≠ (o, d.kind)) :
    (entries.map fun x => if x.isFor o d.kind then x.raisedAgain d w else x) = entries := by
  refine (List.map_congr_left fun x hx => ?_).trans (List.map_id entries)
  exact if_neg fun hfor => h x hx (NoticeEntry.isFor_iff.mp hfor)

/-- The one entry of a waiting pair is raised again, and all others keep their content and their place. -/
theorem Notices.raise_of_split {ns : Notices} (h : ns.Lawful) {before after : List NoticeEntry} {e : NoticeEntry}
    (hs : ns.entries = before ++ e :: after) {o : Origin} {d : Detail} (hp : e.pair = (o, d.kind))
    (hm : ns.mask.getLsbD (NoticeKind.code d.kind) = true) (w : Word32) :
    ns.raise o d w = { ns with entries := before ++ e.raisedAgain d w :: after } := by
  have hothers : ∀ x ∈ before ++ after, x.pair ≠ (o, d.kind) := hp ▸ h.pair_ne_of_split hs
  obtain ⟨hbefore, hafter⟩ := List.forall_mem_append.mp hothers
  rw [Notices.raise_of_waiting hm ⟨e, by simp [hs], hp⟩, hs, List.map_append, List.map_cons,
    if_pos (NoticeEntry.isFor_iff.mpr hp), map_raisedAgain_of_other w hbefore, map_raisedAgain_of_other w hafter]

/-- Settles O53: ATTN while the part operates, and a raise that is masked, of a new pair, and of a pair that waits. -/
theorem raiseActs : Obligations.RaiseActs := by
  intro s o d
  refine ⟨State.attn_low_iff, fun hmasked => ?masked,
    fun hm => ⟨fun hnew => ?new, fun before after e hlaw hs hp => ?waiting⟩⟩
  case masked => rw [State.raise, Notices.raise_masked o _ hmasked]
  case new => rw [State.raise, Notices.raise_of_new hm hnew]
  case waiting =>
    rw [State.raise, Notices.raise_of_split hlaw hs hp hm]
    cases hf : e.inFrame with
    | none => rw [NoticeEntry.raisedAgain_of_unsent hf]
    | some during => rw [NoticeEntry.raisedAgain_of_sent hf]

end Sys2Proof.Machine
end

section
/-! PROOF. The configuration store: STORE, STORE_COMPLETE, and a Store that RESET or a loss of power breaks off (R184 to R186);
O43. -/

namespace Sys2Proof.Machine

/-! ### The check word of an image (R184, R186) -/

/-- The check word that a spoilt image carries is not the CRC-16 over it. -/
theorem Flash.spoilt_eq (i : Image) : ∃ check, Flash.spoilt i = .written i check ∧ check ≠ crc16 i.bytes := by
  refine ⟨~~~i.checkWord, rfl, fun hcheck => ?_⟩
  have hbad : Flash.status (.written i (crc16 i.bytes)) = .invalid := hcheck ▸ Flash.spoilt_status i
  exact absurd ((Flash.sealed_status i).symm.trans hbad) (by decide)

/-! ### The request (R185) -/

/-- With PROTECT read, a Store that can be served is refused by the first check that fails, or taken (R185). -/
theorem storeRequest_of_servable {s : State} {f : ControlFrame} {protect : PinLevel}
    (h : s.servable (· == 0x30) = some f) :
    storeRequest protect s =
      match storeRefusal f (s.sampleProtect protect) with
      | some a => ((s.sampleProtect protect).dequeued.appendReply (replyTo f a.status a.detail) .ordinary).kick
      | none => (s.sampleProtect protect).dequeued.storeTaken f := by
  rw [storeRequest, h]
  rfl

section
variable {s : State} {f : ControlFrame} {rest : List ControlFrame} {protect : PinLevel} (h : Serving s 0x30 f rest)
include h

theorem exec_store_refused {a : Answer} (hr : storeRefusal f (s.sampleProtect protect) = some a) :
    exec (.store protect) s =
      .next ((s.sampleProtect protect).answered rest
        { kind := 0xB0, tag := f.tag, unit := f.unit, payload := a.status.code :: a.detail } .ordinary) := by
  obtain ⟨ho, hp, -, hi, hk⟩ := id h
  rw [exec_store, storeRequest_of_servable (State.servable_of_serving h (by simp [hk])), hr]
  dsimp only
  rw [replyTo, hk]
  exact congrArg Host.Outcome.next
    (State.dequeued_answered ((s.sampleProtect_operating protect).trans ho) (by simp [hp]) hi _ _)

/-- A Store that is taken leaves the inbox without a reply; its snapshot is that of the part as it was served (R185). -/
theorem exec_store_taken (hr : storeRefusal f (s.sampleProtect protect) = none) :
    exec (.store protect) s =
      .next { s.sampleProtect protect with
        control := { s.control with
          inbox := rest
          storeJob := some { tag := f.tag, unit := f.unit, image := s.snapshot } } } := by
  obtain ⟨-, -, -, hi, hk⟩ := id h
  have hrest : s.control.inbox.tail = rest := congrArg List.tail hi
  rw [exec_store, storeRequest_of_servable (State.servable_of_serving h (by simp [hk])), hr, ← hrest]
  rfl

end

section
variable {f : ControlFrame} {s : State}

theorem storeRefusal_of_other_unit (hu : f.unit ≠ 0xFF) : storeRefusal f s = some (Answer.plain .unit) :=
  if_pos hu

variable (hu : f.unit = 0xFF)
include hu

theorem storeRefusal_of_length (hp : f.payload ≠ []) : storeRefusal f s = some (Answer.length f) :=
  (if_neg (not_not.mpr hu)).trans (if_pos hp)

variable (hp : f.payload = [])
include hp

theorem storeRefusal_of_protected (hh : s.pins.protect = .high) :
    storeRefusal f s = some (Answer.plain .protectedField) :=
  (if_neg (not_not.mpr hu)).trans ((if_neg (not_not.mpr hp)).trans (if_pos hh))

theorem storeRefusal_of_unprotected (hl : s.pins.protect = .low) :
    storeRefusal f s = if s.control.storeJob.isSome then some (Answer.plain .busy) else none :=
  (if_neg (not_not.mpr hu)).trans ((if_neg (not_not.mpr hp)).trans (if_neg (by simp [hl])))

end

/-! ### The end of a Store (R186) -/

/-- The outcome of a Store in flight is tested by the check word that it left, which gives the reply and the status (R186). -/
theorem exec_storeComplete_of_job {s : State} {job : StoreJob} (hj : s.control.storeJob = some job)
    (ho : s.operating = true) (good : Bool) :
    exec (.storeComplete good) s =
      .next
        (({ s with
            flash := if good then Flash.sealed job.image else Flash.spoilt job.image
            storeStatus := if good then .valid else .invalid
            control := { s.control with storeJob := none } } : State).appendReply
          { kind := 0xB0, tag := job.tag, unit := job.unit, payload := if good then [0x00, 0] else [0x0B, 1] }
          .store).kick := by
  cases good with
  | true => simp [storeComplete, hj, ho, replyTo, Status.code, StoreStatus.code]
  | false => simp [storeComplete, hj, ho, replyTo, Status.code, StoreStatus.code]

/-- A Store in flight when the part falls silent leaves a spoilt image (R186). -/
theorem State.silenced_flash_of_job {s : State} {job : StoreJob} (hj : s.control.storeJob = some job) :
    s.silenced.flash = Flash.spoilt job.image := by
  simp [State.silenced, State.storeEnded, hj]

/-- Settles O43: one clause for each check of `storeRefusal`, served, and `exec_store_taken`; then the completion of a Store and
its end in silence. -/
theorem storeRequestAndCompletion : Obligations.StoreRequestAndCompletion := by
  refine ⟨fun s f rest protect h =>
      ⟨fun hu => ?unit, fun hu hp => ?length, fun hu hp hh => ?pin, fun hu hp hl hj => ?busy,
        fun hu hp hl hj => ?taken⟩,
    fun s job hj => ⟨fun good ho => ?completed, rfl, Flash.spoilt_eq _, ?silenced⟩⟩
  case unit => exact exec_store_refused h (storeRefusal_of_other_unit hu)
  case length => exact exec_store_refused h (storeRefusal_of_length hu hp)
  case pin => exact exec_store_refused h (storeRefusal_of_protected hu hp hh)
  case busy =>
    have hbusy : storeRefusal f (s.sampleProtect protect) = some (Answer.plain .busy) :=
      (storeRefusal_of_unprotected hu hp hl).trans (if_pos hj)
    exact exec_store_refused h hbusy
  case taken =>
    have htaken : storeRefusal f (s.sampleProtect protect) = none :=
      (storeRefusal_of_unprotected hu hp hl).trans (if_neg (by simp [hj]))
    rw [exec_store_taken h htaken, hu]
    rfl
  case completed => exact exec_storeComplete_of_job hj ho good
  case silenced =>
    have hflash := State.silenced_flash_of_job hj
    exact ⟨_, _, rfl, hflash, rfl, rfl, hflash, rfl⟩

end Sys2Proof.Machine
end

section
/-! PROOF. A step runs the command at the front of the queue (log 3), and no command touches the queue (log 23): O1 and O2. -/

namespace Sys2Proof.Machine

/-! ### The front of the queue -/

theorem step_of_front {c : Instr} {rest : List Instr} {s : State} (h : s.pending = c :: rest) :
    step s = exec c { s with pending := rest } := by
  simp only [step, h]

theorem step_of_empty {s : State} (h : s.pending = []) : step s = .next s := by
  simp only [step, h]

/-- Settles O1: the two equations of `step`, for a queue with a front and for an empty one. -/
theorem stepRunsTheFrontCommand : Obligations.StepRunsTheFrontCommand :=
  ⟨fun _ _ _ => step_of_front, fun _ => step_of_empty⟩

section
variable (s : State)

/-! ### Clock unit and ports -/

theorem missingEdge_pending : (missingEdge s).pending = s.pending := by
  unfold missingEdge
  split <;> rfl

theorem clockToInternal_pending : (clockToInternal s).pending = s.pending := by
  unfold clockToInternal
  split <;> simp

theorem refclkEdge_pending (before : Rat) (since : Option Rat) : (refclkEdge before since s).pending = s.pending := by
  unfold refclkEdge
  split <;> rfl

theorem clockToReference_pending : (clockToReference s).pending = s.pending := by
  unfold clockToReference
  split <;> simp

theorem searchFramePosition_pending (p : Port) (bits : Option (BitVec 16)) :
    (searchFramePosition p bits s).pending = s.pending := by
  unfold searchFramePosition
  dsimp only
  split <;> simp

theorem portLock_pending (p : Port) (body : LinkBody) : (portLock p body s).pending = s.pending := by
  unfold portLock
  dsimp only
  split <;> simp

theorem linkFrameArrival_pending (p : Port) (line : Option LinkFrame) :
    (linkFrameArrival p line s).pending = s.pending := by
  unfold linkFrameArrival
  dsimp only
  split <;> simp

theorem portLossOfSync_pending (p : Port) : (portLossOfSync p s).pending = s.pending := by
  unfold portLossOfSync
  dsimp only
  split <;> simp

/-! ### The output frame and the subblock end -/

theorem outputFrame_pending : (outputFrame s).pending = s.pending := by
  unfold outputFrame
  split <;> rfl

theorem subblockEnd_pending (order : List CloseItem) : (subblockEnd order s).pending = s.pending := by
  by_cases hdue : s.operating = true ∧ s.frame = 4800
  · obtain ⟨ho, hf⟩ := hdue
    rw [subblockEnd_eq order ho hf]
  · rw [subblockEnd_of_not_due hdue]

/-! ### Control port -/

@[simp] theorem State.frameDiscarded_pending (reason : Byte) : (s.frameDiscarded reason).pending = s.pending := by
  simp [State.frameDiscarded]

@[simp] theorem State.handOver_pending (f : ControlFrame) : (s.handOver f).pending = s.pending := by
  unfold State.handOver
  split <;> simp

theorem controlByteReceived_pending (value : Byte) (stop : PinLevel) :
    (controlByteReceived value stop s).pending = s.pending := by
  unfold controlByteReceived
  split <;> rfl

theorem controlFrameComplete_pending : (controlFrameComplete s).pending = s.pending := by
  unfold controlFrameComplete
  split
  · split
    · split
      · exact s.handOver_pending _
      · exact s.frameDiscarded_pending _
    · rfl
  · rfl

theorem lengthFault_pending : (lengthFault s).pending = s.pending := by
  unfold lengthFault
  split
  · split
    · exact s.frameDiscarded_pending _
    · rfl
  · rfl

theorem frameTimeout_pending : (frameTimeout s).pending = s.pending := by
  unfold frameTimeout
  split
  · split
    · exact s.frameDiscarded_pending _
    · rfl
  · rfl

theorem transmitFrameEnd_pending : (transmitFrameEnd s).pending = s.pending := by
  unfold transmitFrameEnd
  split
  · split
    · rfl
    · exact State.kick_pending _
    · exact State.kick_pending _
  · rfl

/-! ### Requests -/

/-- A reply goes out without touching the queue (R169, R170). -/
theorem State.kick_appendReply_pending (t : State) (frame : ControlFrame) (mark : ReplyMark) :
    (t.appendReply frame mark).kick.pending = t.pending := by
  simp

/-- Serving leaves the queue alone when the request's rule does. -/
theorem serve_pending {kind : Byte} {act : ControlFrame → State → State × Answer}
    (hact : ∀ f t, (act f t).1.pending = t.pending) : (serve kind act s).pending = s.pending :=
  serve_keeps (P := fun t => t.pending = s.pending) (fun t h => t.dequeued_pending.trans h)
    (fun f t h => (hact f t).trans h) (fun t frame mark h => (t.kick_appendReply_pending frame mark).trans h) rfl

theorem onService_pending {act : ServiceIndex → ControlFrame → State → State × Answer}
    (hact : ∀ n f t, (act n f t).1.pending = t.pending) (f : ControlFrame) :
    (onService act f s).1.pending = s.pending :=
  onService_keeps (P := fun t => t.pending = s.pending) f (fun n f t h => (hact n f t).trans h) rfl

/-- A rule that leaves the part alone or writes one service leaves the queue alone. -/
theorem State.pending_of_service {s t : State} {n : ServiceIndex} (ht : t = s ∨ ∃ sv, t = s.setService n sv) :
    t.pending = s.pending := by
  rcases ht with rfl | ⟨sv, rfl⟩
  · rfl
  · exact s.setService_pending n sv

/-- A request to a service by such a rule leaves the queue alone. -/
theorem serve_service_pending {kind : Byte} {act : ServiceIndex → ControlFrame → State → State × Answer}
    (hact : ∀ n f t, (act n f t).1 = t ∨ ∃ sv, (act n f t).1 = t.setService n sv) :
    (serve kind (onService act) s).pending = s.pending :=
  serve_pending s fun f t => onService_pending t (fun n f t => State.pending_of_service (hact n f t)) f

theorem unknownKind_pending : (unknownKind s).pending = s.pending := by
  unfold unknownKind
  split <;> simp

theorem identifyRequest_pending : (identifyRequest s).pending = s.pending :=
  serve_pending s fun f t => congrArg State.pending (identifyAct_state f t)

theorem queryRequest_pending (protect : PinLevel) : (queryRequest protect s).pending = s.pending :=
  serve_pending s fun f t => (congrArg State.pending (queryAct_state f _)).trans (t.sampleProtect_pending protect)

theorem peekRequest_pending : (peekRequest s).pending = s.pending :=
  serve_pending s fun f t => congrArg State.pending (peekAct_state f t)

theorem mapRequest_pending : (mapRequest s).pending = s.pending := by
  refine serve_pending s fun f t => onService_pending t (fun n f t => ?_) f
  rcases mapAct_cases n f t with he | ⟨layout, channels, he⟩ <;> rw [he]
  exact t.mapService_pending n layout channels

theorem unmapRequest_pending : (unmapRequest s).pending = s.pending := by
  refine serve_pending s fun f t => onService_pending t (fun n f t => ?_) f
  rcases unmapAct_cases n f t with he | he <;> rw [he]
  rw [State.unmapService, State.setService_pending, State.remapped_pending]

theorem profileRequest_pending (protect : PinLevel) : (profileRequest protect s).pending = s.pending :=
  serve_pending s fun f t =>
    (onService_pending _ (fun n f t => State.pending_of_service (profileAct_cases n f t protect)) f).trans
      (t.sampleProtect_pending protect)

theorem startRequest_pending : (startRequest s).pending = s.pending := by
  refine serve_pending s fun f t => onService_pending t (fun n f t => ?_) f
  rcases startAct_cases n f t with he | ⟨sv, units, he⟩ <;> rw [he]
  exact t.setService_pending n sv

theorem haltRequest_pending : (haltRequest s).pending = s.pending :=
  serve_service_pending s haltAct_cases

theorem bypassRequest_pending : (bypassRequest s).pending = s.pending :=
  serve_service_pending s bypassAct_cases

theorem markRequest_pending : (markRequest s).pending = s.pending :=
  serve_service_pending s markAct_cases

theorem selectRequest_pending : (selectRequest s).pending = s.pending :=
  serve_service_pending s selectAct_cases

theorem portsRequest_pending : (portsRequest s).pending = s.pending := by
  refine serve_pending s fun f t => ?_
  rcases portsAct_cases f t with he | ⟨p, limit, -, -, he⟩ <;> rw [he]
  exact t.setReceiver_pending p _

theorem notifyRequest_pending : (notifyRequest s).pending = s.pending :=
  serve_pending s fun f t => by rw [notifyAct_eq]

/-! ### Store and resets -/

theorem storeRequest_pending (protect : PinLevel) : (storeRequest protect s).pending = s.pending := by
  unfold storeRequest
  split
  · rfl
  · dsimp only
    split
    · exact State.kick_appendReply_pending _ _ _
    · rfl

theorem storeComplete_pending (good : Bool) : (storeComplete good s).pending = s.pending := by
  unfold storeComplete
  split
  · split
    · exact State.kick_appendReply_pending _ _ _
    · rfl
  · rfl

theorem resetRequest_pending : (resetRequest s).pending = s.pending := by
  have hrefuse : ∀ frame, (s.dequeued.appendReply frame .ordinary).kick.pending = s.pending :=
    fun frame => s.dequeued.kick_appendReply_pending frame .ordinary
  unfold resetRequest
  split
  · rfl
  dsimp only
  split
  · exact hrefuse _
  split
  · split
    · exact hrefuse _
    · split
      · exact hrefuse _
      · exact State.kick_appendReply_pending _ _ _
  · exact hrefuse _

@[simp] theorem State.autostarted_pending (cause : ResetCause) : (s.autostarted cause).pending = s.pending := by
  rw [State.autostarted_eq]

@[simp] theorem State.reloaded_pending : s.reloaded.pending = s.pending := by
  rw [State.reloaded_eq]

@[simp] theorem State.configured_pending (option : ResetOption) : (s.configured option).pending = s.pending := by
  rw [State.configured_eq]

@[simp] theorem State.startUp_pending (cause : ResetCause) (rate1 rate0 : PinLevel) (age : Option Rat) :
    (s.startUp cause rate1 rate0 age).pending = s.pending := by
  rw [State.startUp, State.resetEnded_eq, State.autostarted_pending, State.reloaded_pending]

theorem resetRequestActs_pending : (resetRequestActs s).pending = s.pending := by
  rcases resetRequestActs_cases s with he | ⟨option, he⟩ <;> rw [he]
  exact (State.autostarted_pending _ _).trans (s.configured_pending option)

theorem powerOn_pending (rate1 rate0 : PinLevel) (age : Option Rat) :
    (powerOn rate1 rate0 age s).pending = s.pending := by
  unfold powerOn
  split
  · rfl
  · dsimp only
    split
    · rfl
    · exact State.startUp_pending ..

theorem resetPinRelease_pending (rate1 rate0 : PinLevel) (age : Option Rat) :
    (resetPinRelease rate1 rate0 age s).pending = s.pending := by
  unfold resetPinRelease
  split
  · dsimp only
    split
    · exact State.startUp_pending ..
    · rfl
  · rfl

@[simp] theorem State.silenced_pending : s.silenced.pending = s.pending := rfl

end

/-! ### Every command -/

/-- Settles O2: the answer of each command, with its lemma about the queue. -/
theorem everyCommandGoesOn : Obligations.EveryCommandGoesOn := by
  intro c s
  cases c with
  | outputFrame => exact ⟨_, exec_outputFrame s, outputFrame_pending s⟩
  | missingEdge => exact ⟨_, exec_missingEdge s, missingEdge_pending s⟩
  | clockToInternal => exact ⟨_, exec_clockToInternal s, clockToInternal_pending s⟩
  | refclkEdge before since => exact ⟨_, exec_refclkEdge before since s, refclkEdge_pending s before since⟩
  | clockToReference => exact ⟨_, exec_clockToReference s, clockToReference_pending s⟩
  | searchFramePosition p bits => exact ⟨_, exec_searchFramePosition p bits s, searchFramePosition_pending s p bits⟩
  | portLock p body => exact ⟨_, exec_portLock p body s, portLock_pending s p body⟩
  | linkFrameArrival p line => exact ⟨_, exec_linkFrameArrival p line s, linkFrameArrival_pending s p line⟩
  | portLossOfSync p => exact ⟨_, exec_portLossOfSync p s, portLossOfSync_pending s p⟩
  | subblockEnd order => exact ⟨_, exec_subblockEnd order s, subblockEnd_pending s order⟩
  | controlFrameComplete => exact ⟨_, exec_controlFrameComplete s, controlFrameComplete_pending s⟩
  | lengthFault => exact ⟨_, exec_lengthFault s, lengthFault_pending s⟩
  | frameTimeout => exact ⟨_, exec_frameTimeout s, frameTimeout_pending s⟩
  | unknownKind => exact ⟨_, exec_unknownKind s, unknownKind_pending s⟩
  | identify => exact ⟨_, exec_identify s, identifyRequest_pending s⟩
  | query protect => exact ⟨_, exec_query protect s, queryRequest_pending s protect⟩
  | peek => exact ⟨_, exec_peek s, peekRequest_pending s⟩
  | map => exact ⟨_, exec_map s, mapRequest_pending s⟩
  | unmap => exact ⟨_, exec_unmap s, unmapRequest_pending s⟩
  | profile protect => exact ⟨_, exec_profile protect s, profileRequest_pending s protect⟩
  | start => exact ⟨_, exec_start s, startRequest_pending s⟩
  | halt => exact ⟨_, exec_halt s, haltRequest_pending s⟩
  | bypass => exact ⟨_, exec_bypass s, bypassRequest_pending s⟩
  | mark => exact ⟨_, exec_mark s, markRequest_pending s⟩
  | select => exact ⟨_, exec_select s, selectRequest_pending s⟩
  | ports => exact ⟨_, exec_ports s, portsRequest_pending s⟩
  | notify => exact ⟨_, exec_notify s, notifyRequest_pending s⟩
  | store protect => exact ⟨_, exec_store protect s, storeRequest_pending s protect⟩
  | storeComplete good => exact ⟨_, exec_storeComplete good s, storeComplete_pending s good⟩
  | reset => exact ⟨_, exec_reset s, resetRequest_pending s⟩
  | resetRequestActs => exact ⟨_, exec_resetRequestActs s, resetRequestActs_pending s⟩
  | transmitFrameEnd => exact ⟨_, exec_transmitFrameEnd s, transmitFrameEnd_pending s⟩
  | powerOn rate1 rate0 age => exact ⟨_, exec_powerOn rate1 rate0 age s, powerOn_pending s rate1 rate0 age⟩
  | resetPinAssert => exact ⟨_, exec_resetPinAssert s, s.silenced_pending⟩
  | resetPinRelease rate1 rate0 age =>
    exact ⟨_, exec_resetPinRelease rate1 rate0 age s, resetPinRelease_pending s rate1 rate0 age⟩
  | controlByteReceived value stop =>
    exact ⟨_, exec_controlByteReceived value stop s, controlByteReceived_pending s value stop⟩
  | lossOfPower => exact ⟨_, exec_lossOfPower s, s.silenced_pending⟩

end Sys2Proof.Machine
end
